-- ==== Sys2Proof/Word.lean ====
section
/-! DEFINITION. The words of the machine: bytes, 16-bit and 32-bit words, access widths, port and slot numbers. -/

namespace Sys2Proof

/-- A byte on the bus, a latch, a byte of a reply (R10, R39, R40). -/
abbrev Byte := BitVec 8

/-- The width of CTRL, MODE, BAUD, of an operation word and of a light-gun coordinate (R10, R90, R240). -/
abbrev Half := BitVec 16

/-- The width of STAT and of a register write's operand (R10, R92). -/
abbrev Word := BitVec 32

/-- A physical port, `0..NUM_PORTS-1` with `NUM_PORTS = 2` (R9, R48). -/
abbrev Port := Fin 2

/-- A slot index, `0..NUM_SLOTS-1` with `NUM_SLOTS = 8` (R9, R46, R47, D32). -/
abbrev Slot := Fin 8

/-- A logical sub-port of a multitap, `SUB_PORTS = 4` of them (R9, R188). -/
abbrev SubPort := Fin 4

/-- The access widths of the register window (R76). -/
inductive Width where
  | w8
  | w16
  | w32
  deriving DecidableEq, Repr, Inhabited

/-- An access width in bits. -/
def Width.bits : Width → Nat
  | .w8 => 8
  | .w16 => 16
  | .w32 => 32

end Sys2Proof
end

