-- ==== Sys2Proof/Device.lean ====
section
/-! DEFINITION. The data of the machine that operations carry as operands: real operands (R15, R96), device states (R46 to R49,
R182, R210, R240), the sequencing states (R42, R43), output events (R50) and snapshots (R281). -/

namespace Sys2Proof

/-- A real number as an operand (R15, R96, R278): a rational number written out, or the real number an open table holds under
an index, so that every real number has an operand although an operand is plain data (log 13, DESIGN CHOICE). -/
inductive RealNum where
  | rat (q : Rat)
  | named (k : Nat)
  deriving DecidableEq, Repr, Inhabited

/-- The real number an operand stands for, where `table` holds the named ones. -/
def RealNum.valueIn (table : Nat → ℝ) : RealNum → ℝ
  | .rat q => (q : ℝ)
  | .named k => table k

/-- `ANALOG_BUTTON_ROUNDING` (R9, R227). -/
inductive AnalogRounding where
  | truncate
  | nearest
  deriving DecidableEq, Repr, Inhabited

/-- `TWIST_CURVE` (R9, R225). -/
inductive Curve where
  | linear
  | quadratic
  | cubic
  deriving DecidableEq, Repr, Inhabited

/-- The phase of a transfer (R42). -/
inductive BusState where
  | idle
  | transmitting
  | waitingForAck
  deriving DecidableEq, Repr, Inhabited

/-- The class of device that owns the packet in progress (R43). -/
inductive ActiveDevice where
  | none
  | controller
  | memoryCard
  | multitap
  deriving DecidableEq, Repr, Inhabited

/-- What a device's `Transfer` returns: the byte and the acknowledge (R180, R181). -/
structure Reply where
  byte : Byte
  ack : Bool
  deriving DecidableEq, Repr, Inhabited

/-- The twist controller's transfer state `ts` (R210). -/
inductive TwistState where
  | idle
  | ready
  | idMsb
  | buttonsLsb
  | buttonsMsb
  | steering
  | axisI
  | axisII
  | axisL
  deriving DecidableEq, Repr, Inhabited

/-- The twist controller's input latches: the pressed mask `P` and the four axis bytes (R210). -/
structure TwistInputs where
  pressed : BitVec 16
  steer : Byte
  axI : Byte
  axII : Byte
  axL : Byte
  deriving DecidableEq, Repr, Inhabited

/-- The inputs of a newly attached twist controller: nothing pressed, steering centred (R230). -/
def TwistInputs.initial : TwistInputs :=
  { pressed := 0x0000#16, steer := 128#8, axI := 0#8, axII := 0#8, axL := 0#8 }

/-- A twist controller (R210). -/
structure Twist where
  ts : TwistState
  inputs : TwistInputs
  deriving DecidableEq, Repr, Inhabited

/-- The light gun's transfer state `gs` (R240). -/
inductive GunState where
  | idle
  | ready
  | idMsb
  | buttonsLsb
  | buttonsMsb
  | xLsb
  | xMsb
  | yLsb
  | yMsb
  deriving DecidableEq, Repr, Inhabited

/-- A pointer position as the host reports it (R240, R256). The coordinates' type is the model's: real numbers (log 13, DESIGN
CHOICE). -/
structure Pointer where
  px : RealNum
  py : RealNum
  deriving DecidableEq, Repr

/-- The light gun's input latches; `ptr = none` is the spec's `Absent` (R240). -/
structure GunInputs where
  pressed : BitVec 16
  offscreen : Bool
  ptr : Option Pointer
  deriving DecidableEq, Repr, Inhabited

/-- The inputs of a newly attached light gun (R257). -/
def GunInputs.initial : GunInputs :=
  { pressed := 0x0000#16, offscreen := false, ptr := none }

/-- A beam-timing position, two 16-bit values (R240, R253). -/
structure BeamPos where
  x : BitVec 16
  y : BitVec 16
  deriving DecidableEq, Repr, Inhabited

/-- A light gun; `pos` is latched once per packet (R240). -/
structure Gun where
  gs : GunState
  inputs : GunInputs
  pos : BeamPos
  deriving DecidableEq, Repr, Inhabited

/-- A basic pad: a state of the parameter `PAD_MODEL` (R186). Transfer states and inputs are coded as natural numbers, the
`Idle` element as transfer state 0 (log 10, DESIGN CHOICE). -/
structure Pad where
  ts : Nat
  inputs : Nat
  deriving DecidableEq, Repr, Inhabited

/-- A memory card: a state of the parameter `CARD_MODEL` (R187). Transfer states are coded as natural numbers, `Idle` as 0
(log 11, DESIGN CHOICE). -/
structure Card where
  ts : Nat
  contents : List Byte
  deriving DecidableEq, Repr, Inhabited

/-- A multitap: a state of the parameter `TAP_MODEL` (R188). Its transfer state, its addressing and the part that a reset
keeps are coded as natural numbers, `Idle` as transfer state 0 (log 12, DESIGN CHOICE). -/
structure Tap where
  ts : Nat
  addressing : Nat
  settings : Nat
  deriving DecidableEq, Repr, Inhabited

/-- What a controller slot may hold; the constructor is the discriminator tag of R182. -/
inductive Controller where
  | pad (d : Pad)
  | twist (d : Twist)
  | gun (d : Gun)
  deriving DecidableEq, Repr, Inhabited

/-- The variant and the optional initial input state of `ATTACH.CTRL` (R271). -/
inductive CtrlInit where
  | pad (inputs : Option Nat)
  | twist (inputs : Option TwistInputs)
  | gun (inputs : Option GunInputs)
  deriving DecidableEq, Repr, Inhabited

/-- The scheduled event (R44). -/
structure Event where
  active : Bool
  deadline : Nat
  deriving DecidableEq, Repr, Inhabited

/-- One entry of the output list: an interrupt raise on a line, or a read value of the given width handed to the CPU,
zero-extended to 32 bits (R50, R305). -/
inductive OutEvent where
  | irq (line : Nat)
  | read (w : Width) (value : Word)
  deriving DecidableEq, Repr, Inhabited

/-- What a snapshot records of the block (R281): every register, latch and sequencing element, the event as
`(ev.active, ev.deadline - now)`, and every device with its tag. -/
structure Image where
  ctrl : BitVec 16
  stat : BitVec 32
  mode : BitVec 16
  baud : BitVec 16
  transmitBuffer : Byte
  transmitFull : Bool
  receiveBuffer : Byte
  receiveFull : Bool
  inFlight : Byte
  busState : BusState
  activeDevice : ActiveDevice
  evActive : Bool
  evRemaining : Int
  ctrlSlot : Vector (Option Controller) 8
  cardSlot : Vector (Option Card) 8
  tap : Vector (Option Tap) 2
  deriving DecidableEq, Repr, Inhabited

/-- A snapshot as RESTORE's deserializer meets it: an intact stream of some format version, or one that is truncated or
corrupt (R281, R285). The byte layout is the open parameter `SNAPSHOT_FORMAT` (log 18). -/
inductive SnapStream where
  | intact (version : Nat) (img : Image)
  | broken
  deriving DecidableEq, Repr, Inhabited

/-- The fields a format version may lack, each on its own (R286, log 18): every bit of CTRL and STAT, whose bits are the fields
of R33 and R35; every other element of 10_state.md, the event's two fields apart (R44); for each slot and port, the record of
what it holds with the discriminator tag (`ctrlSlot`, `cardSlot`, `tap`), and the parts of such a record. -/
inductive SnapField where
  | ctrl (bit : Fin 16)
  | stat (bit : Fin 32)
  | mode
  | baud
  | transmitBuffer
  | transmitFull
  | receiveBuffer
  | receiveFull
  | inFlight
  | busState
  | evActive
  | evRemaining
  | activeDevice
  | ctrlSlot (i : Slot)
  | cardSlot (i : Slot)
  | tap (p : Port)
  | padTs (i : Slot)
  | padInputs (i : Slot)
  | twistTs (i : Slot)
  | twistPressed (i : Slot) (bit : Fin 16)
  | twistSteer (i : Slot)
  | twistAxI (i : Slot)
  | twistAxII (i : Slot)
  | twistAxL (i : Slot)
  | gunGs (i : Slot)
  | gunPressed (i : Slot) (bit : Fin 16)
  | gunOffscreen (i : Slot)
  | gunPtr (i : Slot)
  | gunPosX (i : Slot)
  | gunPosY (i : Slot)
  | cardTs (i : Slot)
  | cardContents (i : Slot)
  | tapTs (p : Port)
  | tapAddressing (p : Port)
  | tapSettings (p : Port)
  deriving DecidableEq, Repr, Inhabited

/-- A value an operation hands back to its caller other than a register read: the card of `TAKE.CARD` (R275), the snapshot of
`SNAPSHOT` (R281), success or failure of `RESTORE` (R285), the reply of a device exchange (R180). -/
inductive Returned where
  | card (c : Option Card)
  | snapshot (s : SnapStream)
  | restored (ok : Bool)
  | reply (r : Reply)
  deriving DecidableEq, Repr, Inhabited

end Sys2Proof
end

