-- ==== Sys2Proof/Machine/Arith.lean ====
section
/-! DEFINITION. The arithmetic of R15 and the input mappings (R223 to R227), over any ordered field with a floor: the reals the
spec computes in, and the rationals, which evaluate. -/

namespace Sys2Proof.Machine

/-- `clamp` on integers (R15). -/
def clampInt (x lo hi : Int) : Int := min (max x lo) hi

/-- An integer clamped to 0..255, as a byte (R226, R227). -/
def byteOfInt (x : Int) : Byte := BitVec.ofInt 8 (clampInt x 0 255)

section

variable {α : Type} [Field α] [LinearOrder α] [FloorRing α]

/-- `clamp(x, lo, hi)` (R15). -/
def clampNum (x lo hi : α) : α := min (max x lo) hi

/-- `round(x)`: nearest integer, ties away from zero (R15). -/
def roundNum (x : α) : Int :=
  if 0 ≤ x then ⌊x + 1 / 2⌋ else -⌊-x + 1 / 2⌋

/-- `trunc(x)`: towards zero (R15). -/
def truncNum (x : α) : Int :=
  if 0 ≤ x then ⌊x⌋ else -⌊-x⌋

/-- `sign(x)`: -1, 0 or 1 (R15). -/
def signNum (x : α) : α :=
  if x < 0 then -1 else if x = 0 then 0 else 1

/-- `|x|`. -/
def absNum (x : α) : α :=
  if x < 0 then -x else x

/-- The deadzone stage (R224). -/
def deadzone (dz x : α) : α :=
  if absNum x < dz then 0 else signNum x * (absNum x - dz) / (1 - dz)

/-- The response-curve stage (R225). -/
def applyCurve (c : Curve) (x : α) : α :=
  match c with
  | .linear => x
  | .quadratic => signNum x * x * x
  | .cubic => x * x * x

/-- The byte stage (R226). -/
def toByte (c : α) : Byte :=
  byteOfInt (roundNum ((c + 1) * 255 / 2))

/-- `SteerMap` for a deadzone and a curve (R223). -/
def steerMapWith (dz : α) (c : Curve) (x : α) : Byte :=
  toByte (applyCurve c (deadzone dz (clampNum x (-1) 1)))

/-- `AnalogMap` for a rounding (R227). -/
def analogMapWith (r : AnalogRounding) (v : α) : Byte :=
  match r with
  | .nearest => byteOfInt (roundNum (v * 255))
  | .truncate => byteOfInt (truncNum (v * 255))

end

/-! ## The mappings of a rational number are those of the real number it is -/

theorem signNum_cast (x : ℚ) : signNum (x : ℝ) = ((signNum x : ℚ) : ℝ) := by
  simp only [signNum, Rat.cast_lt_zero, Rat.cast_eq_zero]
  split_ifs <;> simp

theorem absNum_cast (x : ℚ) : absNum (x : ℝ) = ((absNum x : ℚ) : ℝ) := by
  simp only [absNum, Rat.cast_lt_zero]
  split_ifs <;> simp

theorem roundNum_cast (x : ℚ) : roundNum (x : ℝ) = roundNum x := by
  have e : ∀ y : ℚ, ⌊(y : ℝ) + 1 / 2⌋ = ⌊y + 1 / 2⌋ := fun y => by
    rw [← Rat.floor_cast (α := ℝ)]
    push_cast
    rfl
  simp only [roundNum, Rat.cast_nonneg, e, ← Rat.cast_neg]

theorem truncNum_cast (x : ℚ) : truncNum (x : ℝ) = truncNum x := by
  simp only [truncNum, Rat.cast_nonneg, ← Rat.cast_neg, Rat.floor_cast]

theorem deadzone_cast (dz x : ℚ) : deadzone (dz : ℝ) (x : ℝ) = ((deadzone dz x : ℚ) : ℝ) := by
  simp only [deadzone, absNum_cast, signNum_cast, Rat.cast_lt]
  split_ifs <;> push_cast <;> rfl

theorem applyCurve_cast (c : Curve) (x : ℚ) : applyCurve c (x : ℝ) = ((applyCurve c x : ℚ) : ℝ) := by
  cases c <;> simp [applyCurve, signNum_cast]

theorem steerMapWith_cast (dz : ℚ) (c : Curve) (x : ℚ) : steerMapWith (dz : ℝ) c (x : ℝ) = steerMapWith dz c x := by
  have e : clampNum (x : ℝ) (-1) 1 = ((clampNum x (-1) 1 : ℚ) : ℝ) := by simp [clampNum]
  have h : ∀ y : ℚ, ((y : ℝ) + 1) * 255 / 2 = (((y + 1) * 255 / 2 : ℚ) : ℝ) := fun y => by push_cast; rfl
  simp only [steerMapWith, toByte, e, deadzone_cast, applyCurve_cast, h, roundNum_cast]

theorem analogMapWith_cast (r : AnalogRounding) (v : ℚ) : analogMapWith r (v : ℝ) = analogMapWith r v := by
  have h : (v : ℝ) * 255 = ((v * 255 : ℚ) : ℝ) := by push_cast; rfl
  cases r <;> simp only [analogMapWith, h, roundNum_cast, truncNum_cast]

end Sys2Proof.Machine
end

