-- ==== Sys2Proof/Config.lean ====
section
/-! DEFINITION. The implementation parameters of R9. A parameter the spec leaves OPEN is an opaque constant, with the bound the
spec states built into its definition; a parameter with a default is a field of `Params`, which State carries unchanged. -/

namespace Sys2Proof

/-- `INVOKE_EARLY_POLICY` (R9, R152). -/
inductive InvokeEarlyPolicy where
  | always
  | onlyIfDue
  deriving DecidableEq, Repr, Inhabited

/-- `RX_EMPTY_READ` (R9, R111). -/
inductive RxEmptyRead where
  | lastByte
  | allOnes
  deriving DecidableEq, Repr, Inhabited

/-- The default of `TWIST_BUTTON_BITS`: Up, Down, Left, Right, Start, A, B, R (R212, D27). -/
def twistButtonDefault : List (Fin 16) := [4, 6, 7, 5, 3, 13, 12, 11]

/-- The default of `GUN_BUTTON_BITS`: Trigger, A, B (R242, D30). -/
def gunButtonDefault : Vector (Fin 16) 3 := #v[13, 3, 14]

/-- The parameters with a default value (R9). State carries them; no step writes them (log 1). No two buttons of
`TWIST_BUTTON_BITS` share a bit (R212). -/
structure Params where
  maxLateness : Nat := 0
  invokeEarly : InvokeEarlyPolicy := .always
  startRequiresRxEmpty : Bool := false
  rxEmptyRead : RxEmptyRead := .lastByte
  noDeviceByte : Byte := 0xFF#8
  selectReplyByte : Byte := 0xFF#8
  nackByte : Byte := 0xFF#8
  analogRounding : AnalogRounding := .truncate
  twistButtonBits : { bits : List (Fin 16) // bits.Nodup } := ⟨twistButtonDefault, by decide⟩
  gunButtonBits : Vector (Fin 16) 3 := gunButtonDefault
  deriving DecidableEq, Repr, Inhabited

/-- `GUN_SENTINEL = (0x0001, 0x000A)` (R9, R253). -/
def gunSentinel : BeamPos := { x := 0x0001#16, y := 0x000A#16 }

/-- `RELAY_INDEX(p)`, open (R9, D32). -/
opaque Config.relayIndex : Port → Slot

/-- The open part of `TAP_SLOTS` (R9, D32): a permutation of the eight slots. -/
opaque Config.tapSlotPerm : Equiv.Perm Slot

/-- `TAP_SLOTS(p, k)`, injective because it is a permutation applied to `4 p + k` (R9, D32, log 12). -/
def Config.tapSlots (p : Port) (k : SubPort) : Slot :=
  Config.tapSlotPerm ⟨4 * p.val + k.val, by omega⟩

/-- The open part of `TRANSFER_TICKS` (R9, D16). -/
opaque Config.transferTicksLessOne : Half → Half → Nat

/-- `TRANSFER_TICKS(MODE, BAUD)`, open, at least 1 (R9, R346). -/
def Config.transferTicks (mode baud : Half) : Nat :=
  Config.transferTicksLessOne mode baud + 1

/-- The open part of `ACK_TICKS_CTRL` (R9, D16). -/
opaque Config.ackTicksCtrlLessOne : Nat

/-- `ACK_TICKS_CTRL`, open, at least 1 (R9, R149). -/
def Config.ackTicksCtrl : Nat :=
  Config.ackTicksCtrlLessOne + 1

/-- The open part of `ACK_TICKS_CARD` (R9, D16). -/
opaque Config.ackTicksCardExtra : Nat

/-- `ACK_TICKS_CARD`, open, greater than `ACK_TICKS_CTRL` (R9, R149). -/
def Config.ackTicksCard : Nat :=
  Config.ackTicksCtrl + Config.ackTicksCardExtra + 1

/-- `IRQ_LINE`, open (R9, D17). -/
opaque Config.irqLine : Nat

/-- `BUS_BASE`, open (R9, R71, D1); its width is the model's (log 29). -/
opaque Config.busBase : Word

/-- `TWIST_CURVE`, open (R9, R225). -/
opaque Config.twistCurve : Curve

/-- The open real numbers of the machine: those that operands name, and `TWIST_DEADZONE`, any real number with `0 <= dz < 1`
(R9, R224). Real arithmetic does not evaluate, so the bytes that R223 and R227 map a real number to stand beside it, fixed by
the equations `steer_eq` and `analog_eq` (log 13). -/
structure RealTable where
  named : Nat → ℝ := fun _ => 0
  deadzone : ℝ := 0
  deadzone_nonneg : 0 ≤ deadzone := by exact le_refl 0
  deadzone_lt_one : deadzone < 1 := by exact one_pos
  steer : Curve → RealNum → Byte := fun c x =>
    match x with
    | .rat q => Machine.steerMapWith (0 : ℚ) c q
    | .named _ => Machine.steerMapWith (0 : ℚ) c 0
  steer_eq : ∀ c x, steer c x = Machine.steerMapWith deadzone c (x.valueIn named) := by
    intro c x; cases x <;> simp [RealNum.valueIn, ← Machine.steerMapWith_cast]
  analog : AnalogRounding → Nat → Byte := fun r _ => Machine.analogMapWith r (0 : ℚ)
  analog_eq : ∀ r k, analog r k = Machine.analogMapWith r (named k) := by
    intro r k; simp [← Machine.analogMapWith_cast]
  deriving Inhabited

/-- The open real numbers (R9, log 13). -/
opaque Config.realTable : RealTable

/-- `TWIST_DEADZONE`, open, `0 <= dz < 1` (R9, R224). -/
def Config.twistDeadzone : ℝ := Config.realTable.deadzone

/-- The real number an operand stands for (R15, R278, log 13). -/
def RealNum.value (x : RealNum) : ℝ := x.valueIn Config.realTable.named

/-- Functions of the pointer position, which do not tell two spellings of one position apart. -/
structure BeamFunction where
  fn : Pointer → Option BeamPos := fun _ => none
  congr : ∀ p q : Pointer, p.px.value = q.px.value → p.py.value = q.py.value → fn p = fn q := by intros; rfl
  deriving Inhabited

/-- `BEAM`, open (R9, R253, D31). -/
opaque Config.beamFunction : BeamFunction

/-- `BEAM`; `none` exactly when the pointer is out of bounds (R9, R253, D31). -/
def Config.beam (p : Pointer) : Option BeamPos := Config.beamFunction.fn p

/-- `PAD_MODEL`: the pad's `Transfer` (R186, log 10). -/
opaque Config.padTransfer : Pad → Byte → Pad × Reply

/-- `PAD_MODEL`: what `SET.BUTTON` does to the pad's inputs (R186, R277). -/
opaque Config.padSetButton : Nat → Nat → Bool → Nat

/-- Functions of a pad's inputs, an axis index and a real number, which do not tell two spellings of one number apart. -/
structure PadAxisFunction where
  fn : Nat → Nat → RealNum → Nat := fun i _ _ => i
  congr : ∀ (i a : Nat) (x y : RealNum), x.value = y.value → fn i a x = fn i a y := by intros; rfl
  deriving Inhabited

/-- `PAD_MODEL`: its part for `SET.AXIS`, open (R186, R278). -/
opaque Config.padAxisFunction : PadAxisFunction

/-- `PAD_MODEL`: what `SET.AXIS` does to the pad's inputs (R186, R278). -/
def Config.padSetAxis (inputs a : Nat) (x : RealNum) : Nat := Config.padAxisFunction.fn inputs a x

/-- `PAD_MODEL`: the inputs of a newly attached pad (R271, R332). -/
opaque Config.padInitialInputs : Nat

/-- `CARD_MODEL`: the card's `Transfer` (R187, log 11). -/
opaque Config.cardTransfer : Card → Byte → Card × Reply

/-- `CARD_MODEL`: content equality, as equality of an open key (R187, R284, item 14, log 11). -/
opaque Config.cardContentKey : List Byte → Nat

/-- `TAP_MODEL`: whether a multitap is enabled (R188). -/
opaque Config.tapEnabled : Tap → Bool

/-- `TAP_MODEL`: whether the addressed sub-device is a memory card (R188). -/
opaque Config.tapAddressedIsCard : Tap → Bool

/-- `TAP_MODEL`: the addressing after a reset, from the part of the state a reset keeps (R185, R188, log 12). -/
opaque Config.tapIdleAddressing : Nat → Nat

/-- A sub-device a multitap may call (R188). -/
inductive TapTarget where
  | controller (k : SubPort)
  | card (k : SubPort)
  deriving DecidableEq, Repr, Inhabited

/-- `TAP_MODEL`: how many sub-device calls one `Transfer` may make (R188, log 12). -/
opaque Config.tapCallLimit : Tap → Byte → Nat

/-- `TAP_MODEL`: the next sub-device call of a `Transfer` and the byte passed on, from the replies so far (`none` in the list:
that sub-slot was empty); `none`: no further call (R188, log 12). -/
opaque Config.tapCall : Tap → Byte → List (Option Reply) → Option (TapTarget × Byte)

/-- `TAP_MODEL`: the multitap's new state and its reply, from the replies of its sub-device calls (R188, log 12). -/
opaque Config.tapAnswer : Tap → Byte → List (Option Reply) → Tap × Reply

/-- `SNAPSHOT_FORMAT`: the version number a snapshot is written with (R281). -/
opaque Config.snapshotVersion : Nat

/-- `SNAPSHOT_FORMAT`: the fields a version other than the current one holds (R286, log 18). -/
opaque Config.otherVersionHas : Nat → SnapField → Bool

/-- Whether a snapshot of version `v` holds field `f`: the current version holds every field (R281, R286). -/
def Config.versionHas (v : Nat) (f : SnapField) : Bool :=
  v == Config.snapshotVersion || Config.otherVersionHas v f

/-- Free value: how many ticks after its deadline an event fires, where `MAX_LATENESS > 0` (R280, item 9, log 9). -/
opaque Config.freeLateness : Nat → Nat

/-- Free value: the light gun's `pos` before its first class byte (R257, item 22, log 15). -/
opaque Config.freeGunPos : Nat → BeamPos

/-- The elements of the block a failed restore leaves free (R285). -/
structure FreeBlock where
  image : Image
  now : Nat
  deadline : Nat
  outputs : List OutEvent
  deriving DecidableEq, Repr, Inhabited

/-- Free value: the whole block after a failed restore (R285, item 21, log 19). -/
opaque Config.freeBlock : Nat → FreeBlock

end Sys2Proof
end

