-- ==== Sys2Proof/Syntax.lean ====
section
/-! DEFINITION. The operations of the block, one constructor per row of the opcode table (R3), and the two encoded forms they
come in: an operation word with its operand, and the byte a device receives in a transfer state (R90, R97). -/

namespace Sys2Proof

/-- The registers of the window as the decode table of R93 names them. -/
inductive BusReg where
  | data
  | stat
  | mode
  | modectrl
  | ctrl
  | baud
  deriving DecidableEq, Repr, Inhabited

/-- The operations (R3). Register writes carry their 32-bit value `v` (R92), host operations the operands of R96, device
exchanges the slot or port of the device and, where the row does not fix it, the byte it receives (R97). -/
inductive Instr where
  -- BUS: register accesses (40_register_access.md)
  | rdData8
  | wrData8 (v : Word)
  | rdData16
  | wrData16 (v : Word)
  | rdData32
  | wrData32 (v : Word)
  | rdStat8
  | wrStat8 (v : Word)
  | rdStat16
  | wrStat16 (v : Word)
  | rdStat32
  | wrStat32 (v : Word)
  | rdMode8
  | wrMode8 (v : Word)
  | rdMode16
  | wrMode16 (v : Word)
  | rdModectrl
  | wrModectrl (v : Word)
  | rdCtrl8
  | wrCtrl8 (v : Word)
  | rdCtrl16
  | wrCtrl16 (v : Word)
  | rdBaud8
  | wrBaud8 (v : Word)
  | rdBaud16
  | wrBaud16 (v : Word)
  | rdUndef (w : Width) (off : BitVec 4)
  | wrUndef (w : Width) (off : BitVec 4) (v : Word)
  -- EVT: the scheduler's event (41_transfer_engine.md)
  | evtFire
  | evtXfer
  | evtAck
  -- HOST: the environment (45_host_interface.md, 70_reset_and_hazards.md)
  | advance (n : Nat)
  | attachCtrl (i : Slot) (c : CtrlInit)
  | detachCtrl (i : Slot)
  | attachCard (i : Slot) (c : Card)
  | detachCard (i : Slot)
  | takeCard (i : Slot)
  | setTap (p : Port) (t : Option Tap)
  | setButton (i : Slot) (b : Nat) (pressed : Bool)
  | setAxis (i : Slot) (a : Nat) (x : RealNum)
  | setPointer (i : Slot) (ptr : Option Pointer)
  | snapshot
  | restore (st : SnapStream)
  | sysreset
  -- DEV: the twist controller (43_device_twist.md)
  | twIdleSel (i : Slot)
  | twIdleMiss (i : Slot) (b : Byte)
  | twReadyClass (i : Slot)
  | twReadyMiss (i : Slot) (b : Byte)
  | twIdmsb (i : Slot) (b : Byte)
  | twBtnlsb (i : Slot) (b : Byte)
  | twBtnmsb (i : Slot) (b : Byte)
  | twSteer (i : Slot) (b : Byte)
  | twAxi (i : Slot) (b : Byte)
  | twAxii (i : Slot) (b : Byte)
  | twAxl (i : Slot) (b : Byte)
  -- DEV: the light gun (44_device_lightgun.md)
  | gunIdleSel (i : Slot)
  | gunIdleMiss (i : Slot) (b : Byte)
  | gunReadyClass (i : Slot)
  | gunReadyMiss (i : Slot) (b : Byte)
  | gunIdmsb (i : Slot) (b : Byte)
  | gunBtnlsb (i : Slot) (b : Byte)
  | gunBtnmsb (i : Slot) (b : Byte)
  | gunXlsb (i : Slot) (b : Byte)
  | gunXmsb (i : Slot) (b : Byte)
  | gunYlsb (i : Slot) (b : Byte)
  | gunYmsb (i : Slot) (b : Byte)
  -- DEV: the abstract models (42_device_framework.md)
  | padTransfer (i : Slot) (b : Byte)
  | cardTransfer (i : Slot) (b : Byte)
  | tapTransfer (p : Port) (b : Byte)
  -- PSEUDO: the pseudo-instructions of R100
  | select (p : Port)
  | selectq (p : Port)
  | ackclr (c : BitVec 16)
  | deselect
  | sreset
  | send (b : Byte)
  | wait (n : Nat)
  deriving DecidableEq, Repr

/-- The operands that stand beside an operation word (R90, R92, R96). -/
inductive Operand where
  | none
  | value (v : Word)
  | ticks (n : Nat)
  | ctrlInit (c : CtrlInit)
  | card (c : Card)
  | tap (t : Option Tap)
  | button (b : Nat) (pressed : Bool)
  | axis (a : Nat) (x : RealNum)
  | pointer (ptr : Option Pointer)
  | stream (st : SnapStream)
  deriving DecidableEq, Repr

/-- An operation word with its operand (R90). -/
structure Op where
  word : BitVec 16
  operand : Operand
  deriving DecidableEq, Repr

/-- Where a device receives a byte: the device's place, its variant and its transfer state (R97). -/
inductive DevCtx where
  | twist (i : Slot) (ts : TwistState)
  | gun (i : Slot) (gs : GunState)
  | pad (i : Slot)
  | card (i : Slot)
  | tap (p : Port)
  deriving DecidableEq, Repr

/-- The two encoded forms: an operation word (formats BUS, EVT, HOST) and a device byte (format DEV) (R90, R97). -/
inductive Encoded where
  | op (o : Op)
  | dev (ctx : DevCtx) (b : Byte)
  deriving DecidableEq, Repr

/-- Why a decoder refuses an operation word, by name (R94, R96). -/
inductive DecodeError where
  /-- a `BUS` word with `W = 11` -/
  | reservedWidth
  /-- a `BUS` word with `Z` not zero -/
  | nonzeroZ
  /-- an `EVT` word other than the three of R95 -/
  | illegalEvent
  /-- a `HOST` word whose `HOP` is not in R96 -/
  | illegalHop
  /-- a `HOST` word whose `ARG` is out of range -/
  | illegalArg
  /-- the operand beside the word is not of the kind R92 or R96 gives the word -/
  | operandMismatch
  deriving DecidableEq, Repr

end Sys2Proof
end

