-- ==== Sys2Proof/Decode.lean ====
section
/-! DEFINITION. The decoder of operation words (R90 to R96) and of device bytes (R97), the raw register accesses (R14, R99),
and the encoder written from the same tables. -/

namespace Sys2Proof

/-! ## The register window (R91, R93) -/

/-- The field `W` of a `BUS` word: `none` is the reserved value `11` (R91). -/
def widthOfBits : Nat → Option Width
  | 0 => some .w8
  | 1 => some .w16
  | 2 => some .w32
  | _ => none

/-- The decode table of R93: `none` is an undefined offset, misaligned accesses among them (R76). -/
def busReg (w : Width) (off : BitVec 4) : Option BusReg :=
  match off.toNat, w with
  | 0x0, _ => some .data
  | 0x4, _ => some .stat
  | 0x8, .w32 => some .modectrl
  | 0x8, _ => some .mode
  | 0xA, .w8 => some .ctrl
  | 0xA, .w16 => some .ctrl
  | 0xE, .w8 => some .baud
  | 0xE, .w16 => some .baud
  | _, _ => none

/-- The register read `RD.<w> <off>` of R99, which is `RegRead(off, w)` of R14. -/
def rawRead (w : Width) (off : BitVec 4) : Instr :=
  match busReg w off, w with
  | some .data, .w8 => .rdData8
  | some .data, .w16 => .rdData16
  | some .data, .w32 => .rdData32
  | some .stat, .w8 => .rdStat8
  | some .stat, .w16 => .rdStat16
  | some .stat, .w32 => .rdStat32
  | some .mode, .w8 => .rdMode8
  | some .mode, .w16 => .rdMode16
  | some .modectrl, .w32 => .rdModectrl
  | some .ctrl, .w8 => .rdCtrl8
  | some .ctrl, .w16 => .rdCtrl16
  | some .baud, .w8 => .rdBaud8
  | some .baud, .w16 => .rdBaud16
  | _, _ => .rdUndef w off

/-- The register write `WR.<w> <off>, <v>` of R99, which is `RegWrite(off, w, v)` of R14. -/
def rawWrite (w : Width) (off : BitVec 4) (v : Word) : Instr :=
  match busReg w off, w with
  | some .data, .w8 => .wrData8 v
  | some .data, .w16 => .wrData16 v
  | some .data, .w32 => .wrData32 v
  | some .stat, .w8 => .wrStat8 v
  | some .stat, .w16 => .wrStat16 v
  | some .stat, .w32 => .wrStat32 v
  | some .mode, .w8 => .wrMode8 v
  | some .mode, .w16 => .wrMode16 v
  | some .modectrl, .w32 => .wrModectrl v
  | some .ctrl, .w8 => .wrCtrl8 v
  | some .ctrl, .w16 => .wrCtrl16 v
  | some .baud, .w8 => .wrBaud8 v
  | some .baud, .w16 => .wrBaud16 v
  | _, _ => .wrUndef w off v

/-- The window offset of a CPU address: the block decodes only `addr - BUS_BASE` in `0x0..0xF` (R71). The spec gives the CPU's
address no width; that addresses are 32 bits and the difference wraps, so that a base above 0xFFFFFFF0 also decodes the lowest
addresses, is the model's (log 29, DESIGN CHOICE). -/
def windowOffset (addr : Word) : Option (BitVec 4) :=
  if (addr - Config.busBase).toNat < 16 then some ((addr - Config.busBase).setWidth 4) else none

/-- `MemRead(BUS_BASE + off, w/8)` of R14. -/
def memRead (addr : Word) (w : Width) : Option Instr :=
  (windowOffset addr).map (rawRead w)

/-- `MemWrite(BUS_BASE + off, w/8, v)` of R14. -/
def memWrite (addr : Word) (w : Width) (v : Word) : Option Instr :=
  (windowOffset addr).map fun off => rawWrite w off v

/-! ## Operation words (R90 to R96) -/

/-- A slot index in `ARG` (R96). -/
def slotArg (arg : Nat) : Except DecodeError Slot :=
  if h : arg < 8 then .ok ⟨arg, h⟩ else .error .illegalArg

/-- A port index in `ARG` (R96). -/
def portArg (arg : Nat) : Except DecodeError Port :=
  if h : arg < 2 then .ok ⟨arg, h⟩ else .error .illegalArg

/-- The `BUS` words, reads and writes (R91, R92, R93, R94). -/
def decodeBus (write : Bool) (w : BitVec 16) (o : Operand) : Except DecodeError Instr :=
  match widthOfBits (w.extractLsb' 12 2).toNat with
  | none => .error .reservedWidth
  | some wd =>
    if w.extractLsb' 4 8 = 0#8 then
      match write, o with
      | false, .none => .ok (rawRead wd (w.extractLsb' 0 4))
      | true, .value v => .ok (rawWrite wd (w.extractLsb' 0 4) v)
      | _, _ => .error .operandMismatch
    else .error .nonzeroZ

/-- The `EVT` words (R95). -/
def decodeEvt (sub : Nat) (o : Operand) : Except DecodeError Instr :=
  match sub, o with
  | 0, .none => .ok .evtFire
  | 1, .none => .ok .evtXfer
  | 2, .none => .ok .evtAck
  | 0, _ => .error .operandMismatch
  | 1, _ => .error .operandMismatch
  | 2, _ => .error .operandMismatch
  | _, _ => .error .illegalEvent

/-- A `HOST` word whose operation takes a slot (R96). -/
def withSlot (arg : Nat) (r : Option (Slot → Instr)) : Except DecodeError Instr :=
  match slotArg arg, r with
  | .error e, _ => .error e
  | .ok _, none => .error .operandMismatch
  | .ok i, some f => .ok (f i)

/-- A `HOST` word whose operation takes a port (R96). -/
def withPort (arg : Nat) (r : Option (Port → Instr)) : Except DecodeError Instr :=
  match portArg arg, r with
  | .error e, _ => .error e
  | .ok _, none => .error .operandMismatch
  | .ok p, some f => .ok (f p)

/-- A `HOST` word whose `ARG` is 0 (R96). -/
def withZeroArg (arg : Nat) (r : Option Instr) : Except DecodeError Instr :=
  match decide (arg = 0), r with
  | false, _ => .error .illegalArg
  | true, none => .error .operandMismatch
  | true, some i => .ok i

/-- The `HOST` words (R96). -/
def decodeHost (hop arg : Nat) (o : Operand) : Except DecodeError Instr :=
  match hop with
  | 0x00 => withZeroArg arg (match o with | .ticks n => some (.advance n) | _ => none)
  | 0x01 => withSlot arg (match o with | .ctrlInit c => some (fun i => .attachCtrl i c) | _ => none)
  | 0x02 => withSlot arg (match o with | .none => some .detachCtrl | _ => none)
  | 0x03 => withSlot arg (match o with | .card c => some (fun i => .attachCard i c) | _ => none)
  | 0x04 => withSlot arg (match o with | .none => some .detachCard | _ => none)
  | 0x05 => withSlot arg (match o with | .none => some .takeCard | _ => none)
  | 0x06 => withPort arg (match o with | .tap t => some (fun p => .setTap p t) | _ => none)
  | 0x07 => withSlot arg (match o with | .button b v => some (fun i => .setButton i b v) | _ => none)
  | 0x08 => withSlot arg (match o with | .axis a x => some (fun i => .setAxis i a x) | _ => none)
  | 0x09 => withSlot arg (match o with | .pointer q => some (fun i => .setPointer i q) | _ => none)
  | 0x0A => withZeroArg arg (match o with | .none => some .snapshot | _ => none)
  | 0x0B => withZeroArg arg (match o with | .stream st => some (.restore st) | _ => none)
  | 0x0C => withZeroArg arg (match o with | .none => some .sysreset | _ => none)
  | _ => .error .illegalHop

/-- The decoder of operation words, total on every word and operand (R90). -/
def decodeOp (op : Op) : Except DecodeError Instr :=
  match (op.word.extractLsb' 14 2).toNat with
  | 0 => decodeBus false op.word op.operand
  | 1 => decodeBus true op.word op.operand
  | 2 => decodeEvt (op.word.extractLsb' 0 14).toNat op.operand
  | _ => decodeHost (op.word.extractLsb' 8 6).toNat (op.word.extractLsb' 0 8).toNat op.operand

/-- Whether an operation word is one of the scheduler's, format `EVT` (R90, R95). -/
def Op.isEvent (op : Op) : Bool :=
  (op.word.extractLsb' 14 2).toNat == 2

/-! ## Device bytes (R97) -/

/-- The row of a byte received by the twist controller of slot `i` in transfer state `ts` (R97). -/
def decodeTwist (i : Slot) (ts : TwistState) (b : Byte) : Instr :=
  match ts with
  | .idle => if b = 0x01#8 then .twIdleSel i else .twIdleMiss i b
  | .ready => if b = 0x42#8 then .twReadyClass i else .twReadyMiss i b
  | .idMsb => .twIdmsb i b
  | .buttonsLsb => .twBtnlsb i b
  | .buttonsMsb => .twBtnmsb i b
  | .steering => .twSteer i b
  | .axisI => .twAxi i b
  | .axisII => .twAxii i b
  | .axisL => .twAxl i b

/-- The row of a byte received by the light gun of slot `i` in transfer state `gs` (R97). -/
def decodeGun (i : Slot) (gs : GunState) (b : Byte) : Instr :=
  match gs with
  | .idle => if b = 0x01#8 then .gunIdleSel i else .gunIdleMiss i b
  | .ready => if b = 0x42#8 then .gunReadyClass i else .gunReadyMiss i b
  | .idMsb => .gunIdmsb i b
  | .buttonsLsb => .gunBtnlsb i b
  | .buttonsMsb => .gunBtnmsb i b
  | .xLsb => .gunXlsb i b
  | .xMsb => .gunXmsb i b
  | .yLsb => .gunYlsb i b
  | .yMsb => .gunYmsb i b

/-- The row of a byte received by a device (R97). -/
def decodeDev (ctx : DevCtx) (b : Byte) : Instr :=
  match ctx with
  | .twist i ts => decodeTwist i ts b
  | .gun i gs => decodeGun i gs b
  | .pad i => .padTransfer i b
  | .card i => .cardTransfer i b
  | .tap p => .tapTransfer p b

/-- The decoder of both encoded forms. -/
def decode : Encoded → Except DecodeError Instr
  | .op o => decodeOp o
  | .dev ctx b => .ok (decodeDev ctx b)

/-! ## The encoder -/

/-- The field `W` of a width (R91). -/
def widthBits : Width → BitVec 2
  | .w8 => 0b00#2
  | .w16 => 0b01#2
  | .w32 => 0b10#2

/-- A `BUS` word: `K`, `W`, `Z = 0`, `OFF` (R91). -/
def busWord (write : Bool) (w : Width) (off : BitVec 4) : BitVec 16 :=
  (if write then 0b01#2 else 0b00#2) ++ widthBits w ++ 0#8 ++ off

/-- A `HOST` word: `K`, `HOP`, `ARG` (R96). -/
def hostWord (hop : BitVec 6) (arg : Nat) : BitVec 16 :=
  0b11#2 ++ hop ++ BitVec.ofNat 8 arg

/-- An encoded register read. -/
def encodeRead (w : Width) (off : BitVec 4) : Encoded :=
  .op { word := busWord false w off, operand := .none }

/-- An encoded register write. -/
def encodeWrite (w : Width) (off : BitVec 4) (v : Word) : Encoded :=
  .op { word := busWord true w off, operand := .value v }

/-- An encoded host operation. -/
def encodeHost (hop : BitVec 6) (arg : Nat) (o : Operand) : Encoded :=
  .op { word := hostWord hop arg, operand := o }

/-- The CTRL value of `SELECT p` (R100). -/
def selectValue (p : Port) : Word :=
  0x1003#32 ||| (BitVec.ofNat 32 p.val <<< 13)

/-- The CTRL value of `SELECTQ p` (R100). -/
def selectqValue (p : Port) : Word :=
  0x0003#32 ||| (BitVec.ofNat 32 p.val <<< 13)

/-- The CTRL value of `ACKCLR c` (R100). -/
def ackclrValue (c : BitVec 16) : Word :=
  c.setWidth 32 ||| 0x0010#32

/-- The CTRL value of `DESELECT` (R100). -/
def deselectValue : Word := 0x0000#32

/-- The CTRL value of `SRESET` (R100). -/
def sresetValue : Word := 0x0040#32

/-- The encoder; a pseudo-instruction has the words of its expansion (R100). -/
def encode : Instr → Encoded
  | .rdData8 => encodeRead .w8 0x0#4
  | .wrData8 v => encodeWrite .w8 0x0#4 v
  | .rdData16 => encodeRead .w16 0x0#4
  | .wrData16 v => encodeWrite .w16 0x0#4 v
  | .rdData32 => encodeRead .w32 0x0#4
  | .wrData32 v => encodeWrite .w32 0x0#4 v
  | .rdStat8 => encodeRead .w8 0x4#4
  | .wrStat8 v => encodeWrite .w8 0x4#4 v
  | .rdStat16 => encodeRead .w16 0x4#4
  | .wrStat16 v => encodeWrite .w16 0x4#4 v
  | .rdStat32 => encodeRead .w32 0x4#4
  | .wrStat32 v => encodeWrite .w32 0x4#4 v
  | .rdMode8 => encodeRead .w8 0x8#4
  | .wrMode8 v => encodeWrite .w8 0x8#4 v
  | .rdMode16 => encodeRead .w16 0x8#4
  | .wrMode16 v => encodeWrite .w16 0x8#4 v
  | .rdModectrl => encodeRead .w32 0x8#4
  | .wrModectrl v => encodeWrite .w32 0x8#4 v
  | .rdCtrl8 => encodeRead .w8 0xA#4
  | .wrCtrl8 v => encodeWrite .w8 0xA#4 v
  | .rdCtrl16 => encodeRead .w16 0xA#4
  | .wrCtrl16 v => encodeWrite .w16 0xA#4 v
  | .rdBaud8 => encodeRead .w8 0xE#4
  | .wrBaud8 v => encodeWrite .w8 0xE#4 v
  | .rdBaud16 => encodeRead .w16 0xE#4
  | .wrBaud16 v => encodeWrite .w16 0xE#4 v
  | .rdUndef w off => encodeRead w off
  | .wrUndef w off v => encodeWrite w off v
  | .evtFire => .op { word := 0x8000#16, operand := .none }
  | .evtXfer => .op { word := 0x8001#16, operand := .none }
  | .evtAck => .op { word := 0x8002#16, operand := .none }
  | .advance n => encodeHost 0x00#6 0 (.ticks n)
  | .attachCtrl i c => encodeHost 0x01#6 i.val (.ctrlInit c)
  | .detachCtrl i => encodeHost 0x02#6 i.val .none
  | .attachCard i c => encodeHost 0x03#6 i.val (.card c)
  | .detachCard i => encodeHost 0x04#6 i.val .none
  | .takeCard i => encodeHost 0x05#6 i.val .none
  | .setTap p t => encodeHost 0x06#6 p.val (.tap t)
  | .setButton i b v => encodeHost 0x07#6 i.val (.button b v)
  | .setAxis i a x => encodeHost 0x08#6 i.val (.axis a x)
  | .setPointer i q => encodeHost 0x09#6 i.val (.pointer q)
  | .snapshot => encodeHost 0x0A#6 0 .none
  | .restore st => encodeHost 0x0B#6 0 (.stream st)
  | .sysreset => encodeHost 0x0C#6 0 .none
  | .twIdleSel i => .dev (.twist i .idle) 0x01#8
  | .twIdleMiss i b => .dev (.twist i .idle) b
  | .twReadyClass i => .dev (.twist i .ready) 0x42#8
  | .twReadyMiss i b => .dev (.twist i .ready) b
  | .twIdmsb i b => .dev (.twist i .idMsb) b
  | .twBtnlsb i b => .dev (.twist i .buttonsLsb) b
  | .twBtnmsb i b => .dev (.twist i .buttonsMsb) b
  | .twSteer i b => .dev (.twist i .steering) b
  | .twAxi i b => .dev (.twist i .axisI) b
  | .twAxii i b => .dev (.twist i .axisII) b
  | .twAxl i b => .dev (.twist i .axisL) b
  | .gunIdleSel i => .dev (.gun i .idle) 0x01#8
  | .gunIdleMiss i b => .dev (.gun i .idle) b
  | .gunReadyClass i => .dev (.gun i .ready) 0x42#8
  | .gunReadyMiss i b => .dev (.gun i .ready) b
  | .gunIdmsb i b => .dev (.gun i .idMsb) b
  | .gunBtnlsb i b => .dev (.gun i .buttonsLsb) b
  | .gunBtnmsb i b => .dev (.gun i .buttonsMsb) b
  | .gunXlsb i b => .dev (.gun i .xLsb) b
  | .gunXmsb i b => .dev (.gun i .xMsb) b
  | .gunYlsb i b => .dev (.gun i .yLsb) b
  | .gunYmsb i b => .dev (.gun i .yMsb) b
  | .padTransfer i b => .dev (.pad i) b
  | .cardTransfer i b => .dev (.card i) b
  | .tapTransfer p b => .dev (.tap p) b
  | .select p => encodeWrite .w16 0xA#4 (selectValue p)
  | .selectq p => encodeWrite .w16 0xA#4 (selectqValue p)
  | .ackclr c => encodeWrite .w16 0xA#4 (ackclrValue c)
  | .deselect => encodeWrite .w16 0xA#4 deselectValue
  | .sreset => encodeWrite .w16 0xA#4 sresetValue
  | .send b => encodeWrite .w8 0x0#4 (b.setWidth 32)
  | .wait n => encodeHost 0x00#6 0 (.ticks n)

/-! ## The host's table words -/

/-- The operand that an operation word of zeros stands for: the bits above the word for a register write and for `ADVANCE`,
and for a host operation the operand all of whose parts are zero (log 20). -/
def zeroOperand (w : BitVec 16) (above : Nat) : Operand :=
  match (w.extractLsb' 14 2).toNat with
  | 0 => .none
  | 1 => .value (BitVec.ofNat 32 above)
  | 2 => .none
  | _ =>
    match (w.extractLsb' 8 6).toNat with
    | 0x00 => .ticks above
    | 0x01 => .ctrlInit (.pad none)
    | 0x03 => .card { ts := 0, contents := [] }
    | 0x06 => .tap none
    | 0x07 => .button 0 false
    | 0x08 => .axis 0 (.rat 0)
    | 0x09 => .pointer none
    | 0x0B => .stream (.intact 0 default)
    | _ => .none

/-- The operation a table word presents: its low 16 bits with the operand of zeros (log 20). -/
def tableOp (w : Nat) : Op :=
  { word := BitVec.ofNat 16 w, operand := zeroOperand (BitVec.ofNat 16 w) (w >>> 16) }

/-- The place a `DEV` table byte is read at: the twist controller of slot 0, in the state whose command byte it is and else
in `Idle` (log 6). -/
def tableCtx (b : Byte) : DevCtx :=
  if b = 0x42#8 then .twist 0 .ready else .twist 0 .idle

/-- What the decoder reads from a table word: 8 bits are a device byte, any other number an operation word. -/
def decodeTableWord (nbits w : Nat) : Option Instr :=
  if nbits ≤ 8 then some (decodeDev (tableCtx (BitVec.ofNat 8 w)) (BitVec.ofNat 8 w))
  else
    match decodeOp (tableOp w) with
    | .ok i => some i
    | .error _ => none

end Sys2Proof
end

