-- ==== Sys2Proof/Machine/State.lean ====
section
/-! DEFINITION. The state of the machine: every element of 10_state.md, the devices' state, the run mark of R285 and the
model's own fields; the reasons a step stops; the state after reset. -/

namespace Sys2Proof.Machine

/-- The reasons a step faults: none. The block raises no synchronous exception and no step of it stops (R300), so no
constructor exists and nothing raises one; that is safe, since nothing can be claimed of a fault. -/
inductive Fault where
  deriving DecidableEq, Repr

/-- The reasons the model refuses to step. -/
inductive Refusal where
  /-- Raised by an arm of `exec` for an instruction without a meaning; no arm does. Safe: the run stops. -/
  | notModelled (mnemonic : String)
  /-- Raised by `step` for a word that spells no operation (R94, R96). Safe: the block never sees such a word. -/
  | illegalWord (e : DecodeError)
  /-- Raised by the `EVT` meanings when the event is not active or not yet due: the scheduler cannot issue the word then
  (R141, log 16). Safe: the run stops. -/
  | eventNotEnabled
  /-- Raised by `EVT.XFER` and `EVT.ACK` in a bus state that does not admit them (R95, log 16). Safe: the run stops. -/
  | eventNotAdmitted
  /-- Raised by a `DEV` meaning when no device of the row's variant and transfer state is at the place named, or the byte is
  one the row excludes (R97, log 7). Safe: the run stops. -/
  | exchangeNotAdmitted
  deriving DecidableEq, Repr

/-- The state of the machine (10_state.md). -/
@[ext]
structure State where
  /-- CTRL (R33, R34). -/
  ctrl : BitVec 16
  /-- STAT (R35, R36). -/
  stat : BitVec 32
  /-- MODE (R37). -/
  mode : BitVec 16
  /-- BAUD (R38). -/
  baud : BitVec 16
  /-- The transmit latch (R39). -/
  transmitBuffer : Byte
  /-- The transmit latch's presence flag (R39). -/
  transmitFull : Bool
  /-- The receive latch (R40). -/
  receiveBuffer : Byte
  /-- The receive latch's presence flag (R40). -/
  receiveFull : Bool
  /-- The byte of the transfer in progress (R41). -/
  inFlight : Byte
  /-- The phase of the transfer (R42). -/
  busState : BusState
  /-- The class that owns the packet (R43). -/
  activeDevice : ActiveDevice
  /-- The scheduled event (R44). -/
  ev : Event
  /-- The virtual tick counter (R45). -/
  now : Nat
  /-- The controller slots (R46). -/
  ctrlSlot : Vector (Option Controller) 8
  /-- The memory-card slots (R47). -/
  cardSlot : Vector (Option Card) 8
  /-- The multitaps of the physical ports (R48). -/
  tap : Vector (Option Tap) 2
  /-- The output list, oldest first (R50). -/
  outputs : List OutEvent
  /-- The mark of a run in which a restore failed (R285). -/
  restoreFailed : Bool
  /-- The model's: the parameters with a default (R9, log 1). No step writes it. -/
  params : Params
  /-- The model's: the operations the agents have still to perform, next first (R11, log 5). -/
  pending : List Op
  /-- The model's: what the last answering operation answered its caller (log 8). -/
  returned : Option Returned
  /-- The model's: the counter of free draws (log 9). -/
  draws : Nat
  deriving DecidableEq, Repr

/-- The machine right after reset: the values of R54 and R332, no device attached, `now = 0` (log 2, 3, 4, 5). -/
def State.reset : State where
  ctrl := 0x0000#16
  stat := 0x00000005#32
  mode := 0x0000#16
  baud := 0x0000#16
  transmitBuffer := 0x00#8
  transmitFull := false
  receiveBuffer := 0x00#8
  receiveFull := false
  inFlight := 0x00#8
  busState := .idle
  activeDevice := .none
  ev := { active := false, deadline := 0 }
  now := 0
  ctrlSlot := Vector.replicate 8 none
  cardSlot := Vector.replicate 8 none
  tap := Vector.replicate 2 none
  outputs := []
  restoreFailed := false
  params := {}
  pending := []
  returned := none
  draws := 0

end Sys2Proof.Machine
end

