-- ==== Sys2Proof/Machine/Flags.lean ====
section
/-! DEFINITION. The bits of CTRL and STAT (R33, R35) and the status recompute (R154). -/

namespace Sys2Proof.Machine

/-- `v` with bit `i` set to `b`. -/
def setBit {n : Nat} (v : BitVec n) (i : Nat) (b : Bool) : BitVec n :=
  if b then v ||| BitVec.twoPow n i else v &&& ~~~(BitVec.twoPow n i)

/-! ## CTRL (R33) -/

/-- `CTRL.TXEN`, bit 0. -/
def txen (c : BitVec 16) : Bool := c.getLsbD 0

/-- `CTRL.SELECT`, bit 1. -/
def selected (c : BitVec 16) : Bool := c.getLsbD 1

/-- `CTRL.ACK`, bit 4. -/
def ackBit (c : BitVec 16) : Bool := c.getLsbD 4

/-- `CTRL.RESET`, bit 6. -/
def resetBit (c : BitVec 16) : Bool := c.getLsbD 6

/-- `CTRL.ACKINTEN`, bit 12. -/
def ackinten (c : BitVec 16) : Bool := c.getLsbD 12

/-- `CTRL.SLOT`, bit 13: the selected physical port (R33, R143). -/
def portOf (c : BitVec 16) : Port := if c.getLsbD 13 then 1 else 0

/-- CTRL with `RXEN`, bit 2, set (R142). -/
def withRxen (c : BitVec 16) : BitVec 16 := setBit c 2 true

/-! ## STAT (R35) -/

/-- STAT with `ACKIN`, bit 7, set to `b`. -/
def withAckin (st : BitVec 32) (b : Bool) : BitVec 32 := setBit st 7 b

/-- STAT with `INTR`, bit 9, set to `b`. -/
def withIntr (st : BitVec 32) (b : Bool) : BitVec 32 := setBit st 9 b

/-- `STAT.ACKIN`. -/
def ackin (st : BitVec 32) : Bool := st.getLsbD 7

/-- `STAT.INTR`. -/
def intr (st : BitVec 32) : Bool := st.getLsbD 9

/-- The formula of `TXRDY` (R154). -/
def txrdyOf (transmitFull : Bool) : Bool := !transmitFull

/-- The formula of `RXNE` (R154). -/
def rxneOf (receiveFull : Bool) : Bool := receiveFull

/-- The formula of `TXDONE` (R154). -/
def txdoneOf (transmitFull : Bool) (bus : BusState) : Bool := !transmitFull && bus != .transmitting

/-- STAT with its three derived flags, bits 0 to 2, recomputed (R154). -/
def recompute (st : BitVec 32) (transmitFull receiveFull : Bool) (bus : BusState) : BitVec 32 :=
  setBit (setBit (setBit st 0 (txrdyOf transmitFull)) 1 (rxneOf receiveFull)) 2 (txdoneOf transmitFull bus)

end Sys2Proof.Machine
end

