-- ==== Sys2Proof/Machine/Operands.lean ====
section
/-! DEFINITION. The operand forms: access widths (R74, R77, R78, R92), the input mappings of real operands (R223 to R227), the
button tables (R212, R242). -/

namespace Sys2Proof.Machine

/-! ## Access widths -/

/-- `v[w-1:0]`, zero-extended to 32 bits (R77, R92). -/
def lowBits (w : Width) (v : Word) : Word :=
  match w with
  | .w8 => (v.setWidth 8).setWidth 32
  | .w16 => (v.setWidth 16).setWidth 32
  | .w32 => v

/-- What a write of width `w` stores in a 16-bit register: `zext_16(v[w-1:0])` (R78, R92). -/
def storeHalf (w : Width) (v : Word) : BitVec 16 :=
  (lowBits w v).setWidth 16

/-- `rep_{w/8}(b)`, the byte in every lane of the access (R74, R111). -/
def replicateByte (w : Width) (b : Byte) : Word :=
  match w with
  | .w8 => b.setWidth 32
  | .w16 => (b ++ b).setWidth 32
  | .w32 => b ++ b ++ b ++ b

/-- `2^w - 1`, all-ones at the access width (R123). -/
def allOnes (w : Width) : Word :=
  lowBits w 0xFFFFFFFF#32

/-! ## Input mappings (R223 to R227) -/

/-- `SteerMap` with the configured deadzone and curve (R223, R287). -/
def steerMap (x : RealNum) : Byte :=
  Config.realTable.steer Config.twistCurve x

/-- `AnalogMap` (R227). -/
def analogMap (r : AnalogRounding) (x : RealNum) : Byte :=
  match x with
  | .rat q => analogMapWith r q
  | .named k => Config.realTable.analog r k

/-- `SteerMap` is the three stages of R223 on the real number the operand stands for. -/
theorem steerMap_eq (x : RealNum) : steerMap x = steerMapWith Config.twistDeadzone Config.twistCurve x.value :=
  Config.realTable.steer_eq Config.twistCurve x

/-- `AnalogMap` is R227 on the real number the operand stands for. -/
theorem analogMap_eq (r : AnalogRounding) (x : RealNum) : analogMap r x = analogMapWith r x.value := by
  cases x with
  | rat q => exact (analogMapWith_cast r q).symm
  | named k => exact Config.realTable.analog_eq r k

/-! ## Button tables -/

/-- The bit that `TWIST_BUTTON_BITS` assigns to button `b`; none outside the table (R212, R228). -/
def twistButtonBit (p : Params) (b : Nat) : Option (Fin 16) := p.twistButtonBits.val[b]?

/-- The bit that `GUN_BUTTON_BITS` assigns to input `b`; none for shoot-offscreen and outside the table (R242, R255). -/
def gunButtonBit (p : Params) (b : Nat) : Option (Fin 16) := p.gunButtonBits[b]?

end Sys2Proof.Machine
end

