-- ==== Sys2Proof/Machine/Devices.lean ====
section
/-! DEFINITION. What a device does on its own: one function per row of a twist controller's and a light gun's packet (R214 to
R222, R244 to R252), the abstract models (R186 to R188), device reset (R185), the host's inputs (R228, R229, R254 to R256) and
attachment (R271). -/

namespace Sys2Proof.Machine

/-- An acknowledged reply. -/
def acked (b : Byte) : Reply := { byte := b, ack := true }

/-- A reply without acknowledge. -/
def nacked (b : Byte) : Reply := { byte := b, ack := false }

/-- The low button byte on the wire, inverted (R98, R213, R243). -/
def buttonsLow (pressed : BitVec 16) : Byte := ~~~(pressed.extractLsb' 0 8)

/-- The high button byte on the wire, inverted (R98, R213, R243). -/
def buttonsHigh (pressed : BitVec 16) : Byte := ~~~(pressed.extractLsb' 8 8)

/-! ## The twist controller (R210 to R222) -/

/-- The identifier of the twist controller (R211). -/
def twistId : BitVec 16 := 0x5A23#16

/-- `TW.IDLE` on the select byte (R214). -/
def twistIdleSel (p : Params) (d : Twist) : Twist × Reply :=
  ({ d with ts := .ready }, acked p.selectReplyByte)

/-- `TW.IDLE` on any other byte (R214). -/
def twistIdleMiss (p : Params) (d : Twist) : Twist × Reply :=
  ({ d with ts := .idle }, nacked p.nackByte)

/-- `TW.READY` on the class byte (R215). -/
def twistReadyClass (d : Twist) : Twist × Reply :=
  ({ d with ts := .idMsb }, acked (twistId.extractLsb' 0 8))

/-- `TW.READY` on any other byte (R215). -/
def twistReadyMiss (p : Params) (d : Twist) : Twist × Reply :=
  ({ d with ts := .idle }, nacked p.nackByte)

/-- `TW.IDMSB` (R216). -/
def twistIdmsb (d : Twist) : Twist × Reply :=
  ({ d with ts := .buttonsLsb }, acked (twistId.extractLsb' 8 8))

/-- `TW.BTNLSB` (R217). -/
def twistBtnlsb (d : Twist) : Twist × Reply :=
  ({ d with ts := .buttonsMsb }, acked (buttonsLow d.inputs.pressed))

/-- `TW.BTNMSB` (R218). -/
def twistBtnmsb (d : Twist) : Twist × Reply :=
  ({ d with ts := .steering }, acked (buttonsHigh d.inputs.pressed))

/-- `TW.STEER` (R219). -/
def twistSteer (d : Twist) : Twist × Reply :=
  ({ d with ts := .axisI }, acked d.inputs.steer)

/-- `TW.AXI` (R220). -/
def twistAxi (d : Twist) : Twist × Reply :=
  ({ d with ts := .axisII }, acked d.inputs.axI)

/-- `TW.AXII` (R221). -/
def twistAxii (d : Twist) : Twist × Reply :=
  ({ d with ts := .axisL }, acked d.inputs.axII)

/-- `TW.AXL`, the last byte of the packet (R222). -/
def twistAxl (d : Twist) : Twist × Reply :=
  ({ d with ts := .idle }, nacked d.inputs.axL)

/-- The twist controller's `Transfer` (R180, R184, R214 to R222). -/
def twistTransfer (p : Params) (d : Twist) (b : Byte) : Twist × Reply :=
  match d.ts with
  | .idle => if b = 0x01#8 then twistIdleSel p d else twistIdleMiss p d
  | .ready => if b = 0x42#8 then twistReadyClass d else twistReadyMiss p d
  | .idMsb => twistIdmsb d
  | .buttonsLsb => twistBtnlsb d
  | .buttonsMsb => twistBtnmsb d
  | .steering => twistSteer d
  | .axisI => twistAxi d
  | .axisII => twistAxii d
  | .axisL => twistAxl d

/-! ## The light gun (R240 to R253) -/

/-- The identifier of the light gun (R241). -/
def gunId : BitVec 16 := 0x5A63#16

/-- `GunPosition()` (R253). -/
def gunPosition (i : GunInputs) : BeamPos :=
  if i.offscreen then gunSentinel
  else
    match i.ptr with
    | none => gunSentinel
    | some q =>
      match Config.beam q with
      | none => gunSentinel
      | some pos => pos

/-- `GUN.IDLE` on the select byte (R244). -/
def gunIdleSel (p : Params) (d : Gun) : Gun × Reply :=
  ({ d with gs := .ready }, acked p.selectReplyByte)

/-- `GUN.IDLE` on any other byte (R244). -/
def gunIdleMiss (p : Params) (d : Gun) : Gun × Reply :=
  ({ d with gs := .idle }, nacked p.nackByte)

/-- `GUN.READY` on the class byte: the once-per-packet position sample (R245). -/
def gunReadyClass (d : Gun) : Gun × Reply :=
  ({ d with gs := .idMsb, pos := gunPosition d.inputs }, acked (gunId.extractLsb' 0 8))

/-- `GUN.READY` on any other byte (R245). -/
def gunReadyMiss (p : Params) (d : Gun) : Gun × Reply :=
  ({ d with gs := .idle }, nacked p.nackByte)

/-- `GUN.IDMSB` (R246). -/
def gunIdmsb (d : Gun) : Gun × Reply :=
  ({ d with gs := .buttonsLsb }, acked (gunId.extractLsb' 8 8))

/-- `GUN.BTNLSB` (R247). -/
def gunBtnlsb (d : Gun) : Gun × Reply :=
  ({ d with gs := .buttonsMsb }, acked (buttonsLow d.inputs.pressed))

/-- `GUN.BTNMSB` (R248). -/
def gunBtnmsb (d : Gun) : Gun × Reply :=
  ({ d with gs := .xLsb }, acked (buttonsHigh d.inputs.pressed))

/-- `GUN.XLSB` (R249). -/
def gunXlsb (d : Gun) : Gun × Reply :=
  ({ d with gs := .xMsb }, acked (d.pos.x.extractLsb' 0 8))

/-- `GUN.XMSB` (R250). -/
def gunXmsb (d : Gun) : Gun × Reply :=
  ({ d with gs := .yLsb }, acked (d.pos.x.extractLsb' 8 8))

/-- `GUN.YLSB` (R251). -/
def gunYlsb (d : Gun) : Gun × Reply :=
  ({ d with gs := .yMsb }, acked (d.pos.y.extractLsb' 0 8))

/-- `GUN.YMSB`, the last byte of the packet (R252). -/
def gunYmsb (d : Gun) : Gun × Reply :=
  ({ d with gs := .idle }, nacked (d.pos.y.extractLsb' 8 8))

/-- The light gun's `Transfer` (R180, R184, R244 to R252). -/
def gunTransfer (p : Params) (d : Gun) (b : Byte) : Gun × Reply :=
  match d.gs with
  | .idle => if b = 0x01#8 then gunIdleSel p d else gunIdleMiss p d
  | .ready => if b = 0x42#8 then gunReadyClass d else gunReadyMiss p d
  | .idMsb => gunIdmsb d
  | .buttonsLsb => gunBtnlsb d
  | .buttonsMsb => gunBtnmsb d
  | .xLsb => gunXlsb d
  | .xMsb => gunXmsb d
  | .yLsb => gunYlsb d
  | .yMsb => gunYmsb d

/-! ## Transfers and resets of what a slot holds -/

/-- The `Transfer` of a controller slot's device (R180, R186). -/
def controllerTransfer (p : Params) (d : Controller) (b : Byte) : Controller × Reply :=
  match d with
  | .pad x => (.pad (Config.padTransfer x b).1, (Config.padTransfer x b).2)
  | .twist x => (.twist (twistTransfer p x b).1, (twistTransfer p x b).2)
  | .gun x => (.gun (gunTransfer p x b).1, (gunTransfer p x b).2)

/-- `ResetTransferState()` of a controller: the transfer state only (R185, R231, R257). -/
def resetController : Controller → Controller
  | .pad x => .pad { x with ts := 0 }
  | .twist x => .twist { x with ts := .idle }
  | .gun x => .gun { x with gs := .idle }

/-- `ResetTransferState()` of a memory card: its contents stay (R185, R187, D33). -/
def resetCard (c : Card) : Card := { c with ts := 0 }

/-- `ResetTransferState()` of a multitap: its own transfer and addressing state (R185, R188). -/
def resetTap (t : Tap) : Tap := { t with ts := 0, addressing := Config.tapIdleAddressing t.settings }

/-! ## Host inputs (R228, R229, R254 to R256, R277 to R279) -/

/-- `SET.BUTTON` on a twist controller (R228). -/
def twistSetButton (p : Params) (i : TwistInputs) (b : Nat) (pressed : Bool) : TwistInputs :=
  match twistButtonBit p b with
  | some k => { i with pressed := setBit i.pressed k.val pressed }
  | none => i

/-- `SET.BUTTON` on a light gun: index 3 is shoot-offscreen, which toggles the Trigger with it (R254, R255). -/
def gunSetButton (p : Params) (i : GunInputs) (b : Nat) (pressed : Bool) : GunInputs :=
  if b = 3 then
    if i.offscreen = pressed then i
    else { i with offscreen := pressed, pressed := setBit i.pressed p.gunButtonBits[0].val pressed }
  else
    match gunButtonBit p b with
    | some k => { i with pressed := setBit i.pressed k.val pressed }
    | none => i

/-- `SET.BUTTON` by variant (R277). -/
def controllerSetButton (p : Params) (b : Nat) (pressed : Bool) : Controller → Controller
  | .pad x => .pad { x with inputs := Config.padSetButton x.inputs b pressed }
  | .twist x => .twist { x with inputs := twistSetButton p x.inputs b pressed }
  | .gun x => .gun { x with inputs := gunSetButton p x.inputs b pressed }

/-- `SET.AXIS` on a twist controller (R229). -/
def twistSetAxis (p : Params) (i : TwistInputs) (a : Nat) (x : RealNum) : TwistInputs :=
  match a with
  | 0 => { i with steer := steerMap x }
  | 1 => { i with axI := analogMap p.analogRounding x }
  | 2 => { i with axII := analogMap p.analogRounding x }
  | 3 => { i with axL := analogMap p.analogRounding x }
  | _ => i

/-- `SET.AXIS` by variant (R278). -/
def controllerSetAxis (p : Params) (a : Nat) (x : RealNum) : Controller → Controller
  | .pad d => .pad { d with inputs := Config.padSetAxis d.inputs a x }
  | .twist d => .twist { d with inputs := twistSetAxis p d.inputs a x }
  | .gun d => .gun d

/-- `SET.POINTER` by variant (R256, R279). -/
def controllerSetPointer (q : Option Pointer) : Controller → Controller
  | .pad d => .pad d
  | .twist d => .twist d
  | .gun d => .gun { d with inputs := { d.inputs with ptr := q } }

/-! ## Attachment (R271) -/

/-- The bits a button table assigns. -/
def assignedMask : List (Fin 16) → BitVec 16
  | [] => 0x0000#16
  | k :: bits => setBit (assignedMask bits) k.val true

/-- A pressed mask handed in from outside, with the bits that no button is assigned to cleared: they stay 0 in `P` (R212, R242).
That the model clears them, where the spec does not say what becomes of such a mask, is its own choice (log 27, DESIGN
CHOICE). -/
def keepAssigned (bits : List (Fin 16)) (pressed : BitVec 16) : BitVec 16 := pressed &&& assignedMask bits

/-- The pressed mask a twist controller takes over from outside (R212, log 27). -/
def twistPressed (p : Params) (pressed : BitVec 16) : BitVec 16 := keepAssigned p.twistButtonBits.val pressed

/-- The pressed mask a light gun takes over from outside (R242, log 27). -/
def gunPressed (p : Params) (pressed : BitVec 16) : BitVec 16 := keepAssigned p.gunButtonBits.toList pressed

/-- Twist controller inputs handed in from outside (R212, log 27). -/
def twistInputs (p : Params) (i : TwistInputs) : TwistInputs := { i with pressed := twistPressed p i.pressed }

/-- Light gun inputs handed in from outside (R242, log 27). -/
def gunInputs (p : Params) (i : GunInputs) : GunInputs := { i with pressed := gunPressed p i.pressed }

/-- A newly attached controller: `Idle`, with the inputs given or the variant's initial ones (R230, R257, R271), unassigned
button bits cleared (log 27). `freePos` is the free value a light gun's `pos` starts with (log 15). -/
def attachController (p : Params) (c : CtrlInit) (freePos : BeamPos) : Controller :=
  match c with
  | .pad i => .pad { ts := 0, inputs := i.getD Config.padInitialInputs }
  | .twist i => .twist { ts := .idle, inputs := twistInputs p (i.getD TwistInputs.initial) }
  | .gun i => .gun { gs := .idle, inputs := gunInputs p (i.getD GunInputs.initial), pos := freePos }

end Sys2Proof.Machine
end

