-- ==== Sys2Proof/Machine/Update.lean ====
section
/-! DEFINITION. The named updates of State, one per field that an operation writes; no operation writes `params`. -/

namespace Sys2Proof.Machine

/-- Write `ctrl`. -/
def State.setCtrl (s : State) (v : BitVec 16) : State :=
  { s with ctrl := v }

/-- Write `stat`. -/
def State.setStat (s : State) (v : BitVec 32) : State :=
  { s with stat := v }

/-- Write `mode`. -/
def State.setMode (s : State) (v : BitVec 16) : State :=
  { s with mode := v }

/-- Write `baud`. -/
def State.setBaud (s : State) (v : BitVec 16) : State :=
  { s with baud := v }

/-- Write `transmitBuffer`. -/
def State.setTransmitBuffer (s : State) (v : Byte) : State :=
  { s with transmitBuffer := v }

/-- Write `transmitFull`. -/
def State.setTransmitFull (s : State) (v : Bool) : State :=
  { s with transmitFull := v }

/-- Write `receiveBuffer`. -/
def State.setReceiveBuffer (s : State) (v : Byte) : State :=
  { s with receiveBuffer := v }

/-- Write `receiveFull`. -/
def State.setReceiveFull (s : State) (v : Bool) : State :=
  { s with receiveFull := v }

/-- Write `inFlight`. -/
def State.setInFlight (s : State) (v : Byte) : State :=
  { s with inFlight := v }

/-- Write `busState`. -/
def State.setBusState (s : State) (v : BusState) : State :=
  { s with busState := v }

/-- Write `activeDevice`. -/
def State.setActiveDevice (s : State) (v : ActiveDevice) : State :=
  { s with activeDevice := v }

/-- Write `ev`. -/
def State.setEv (s : State) (v : Event) : State :=
  { s with ev := v }

/-- Write `now`. -/
def State.setNow (s : State) (v : Nat) : State :=
  { s with now := v }

/-- Write `ctrlSlot`. -/
def State.setCtrlSlot (s : State) (v : Vector (Option Controller) 8) : State :=
  { s with ctrlSlot := v }

/-- Write `cardSlot`. -/
def State.setCardSlot (s : State) (v : Vector (Option Card) 8) : State :=
  { s with cardSlot := v }

/-- Write `tap`. -/
def State.setTap (s : State) (v : Vector (Option Tap) 2) : State :=
  { s with tap := v }

/-- Write `outputs`. -/
def State.setOutputs (s : State) (v : List OutEvent) : State :=
  { s with outputs := v }

/-- Write `restoreFailed`. -/
def State.setRestoreFailed (s : State) (v : Bool) : State :=
  { s with restoreFailed := v }

/-- Write `pending`. -/
def State.setPending (s : State) (v : List Op) : State :=
  { s with pending := v }

/-- Write `returned`. -/
def State.setReturned (s : State) (v : Option Returned) : State :=
  { s with returned := v }

/-- Write `draws`. -/
def State.setDraws (s : State) (v : Nat) : State :=
  { s with draws := v }

end Sys2Proof.Machine
end

