-- ==== Sys2Proof/Machine/Ops.lean ====
section
/-! DEFINITION. The shared operations over the state: status, event, outputs and the interrupt, slots, device exchanges,
arbitration, the two ticks, begin and end of a transfer, resets, register reads and writes, the passage of time, slot
management and input, the device rows. -/

namespace Sys2Proof.Machine

/-! ## Status, event, outputs (R14, R44, R50, R154) -/

/-- `UpdateStatus()` (R154). -/
def updateStatus (s : State) : State :=
  s.setStat (recompute s.stat s.transmitFull s.receiveFull s.busState)

/-- `Sched(n)`: the event is active with deadline `now + n`; its lateness is a fresh free draw (R14, R44, log 9). -/
def sched (n : Nat) (s : State) : State :=
  (s.setEv { active := true, deadline := s.now + n }).setDraws (s.draws + 1)

/-- `Deact()`: the deadline keeps its value, which nothing observes (R14, R44). -/
def deact (s : State) : State :=
  s.setEv { s.ev with active := false }

/-- Append one event to the output list (R50). -/
def emit (e : OutEvent) (s : State) : State :=
  s.setOutputs (s.outputs ++ [e])

/-- Hand a value of width `w` to the CPU (R50). -/
def answer (w : Width) (v : Word) (s : State) : State :=
  emit (.read w (lowBits w v)) s

/-- The interrupt: `STAT.INTR` is set and one raise is emitted; the block saves nothing else (R303, R305, R307). -/
def raiseIrq (s : State) : State :=
  emit (.irq Config.irqLine) (s.setStat (withIntr s.stat true))

/-- The block's return from the interrupt: `STAT.INTR` is cleared, and the sink is not notified (R304, R308). -/
def clearIrq (s : State) : State :=
  s.setStat (withIntr s.stat false)

/-! ## Slots (R46 to R48) -/

/-- Put a controller, or nothing, in a slot. -/
def putController (i : Slot) (c : Option Controller) (s : State) : State :=
  s.setCtrlSlot (s.ctrlSlot.set i c)

/-- Put a memory card, or nothing, in a slot. -/
def putCard (i : Slot) (c : Option Card) (s : State) : State :=
  s.setCardSlot (s.cardSlot.set i c)

/-- Bind a multitap, or nothing, to a port. -/
def putTap (p : Port) (t : Option Tap) (s : State) : State :=
  s.setTap (s.tap.set p t)

/-- `tapAttached(p)` (R48). -/
def tapAttached (p : Port) (s : State) : Bool := s.tap[p].isSome

/-- The physical port selected now (R143). -/
def selectedPort (s : State) : Port := portOf s.ctrl

/-- The slot of a port without a multitap (R143). -/
def slotOfPort (p : Port) : Slot := ⟨p.val, by omega⟩

/-- The logical device index of the transfer tick (R143). -/
def deviceIndex (p : Port) (s : State) : Slot :=
  if tapAttached p s then Config.relayIndex p else slotOfPort p

/-! ## Device exchanges (R180, R183, R188) -/

/-- Offer a byte to the controller of a slot; `none`: the slot is empty. -/
def exchangeController (i : Slot) (b : Byte) (s : State) : State × Option Reply :=
  match s.ctrlSlot[i] with
  | none => (s, none)
  | some c =>
    (putController i (some (controllerTransfer s.params c b).1) s, some (controllerTransfer s.params c b).2)

/-- Offer a byte to the memory card of a slot; `none`: the slot is empty (R187). -/
def exchangeCard (i : Slot) (b : Byte) (s : State) : State × Option Reply :=
  match s.cardSlot[i] with
  | none => (s, none)
  | some c => (putCard i (some (Config.cardTransfer c b).1) s, some (Config.cardTransfer c b).2)

/-- One call a multitap makes on a sub-device of its port (R188). -/
def exchangeSub (p : Port) (t : TapTarget) (b : Byte) (s : State) : State × Option Reply :=
  match t with
  | .controller k => exchangeController (Config.tapSlots p k) b s
  | .card k => exchangeCard (Config.tapSlots p k) b s

/-- The calls a multitap makes for one byte, with their replies in order (R188, log 12). -/
def relayCalls (p : Port) (t : Tap) (b : Byte) : Nat → List (Option Reply) → State → State × List (Option Reply)
  | 0, rs, s => (s, rs)
  | n + 1, rs, s =>
    match Config.tapCall t b rs with
    | none => (s, rs)
    | some (tgt, b') =>
      relayCalls p t b n (rs ++ [(exchangeSub p tgt b' s).2]) (exchangeSub p tgt b' s).1

/-- Offer a byte to the multitap of a port; `none`: none is attached (R188). -/
def exchangeTap (p : Port) (b : Byte) (s : State) : State × Option Reply :=
  match s.tap[p] with
  | none => (s, none)
  | some t =>
    let r := relayCalls p t b (Config.tapCallLimit t b) [] s
    (putTap p (some (Config.tapAnswer t b r.2).1) r.1, some (Config.tapAnswer t b r.2).2)

/-! ## Resets of the devices (R185, R189) -/

/-- `ResetTransferState()` on every device present. -/
def resetDevices (s : State) : State :=
  ((s.setCtrlSlot (s.ctrlSlot.map (Option.map resetController))).setCardSlot
    (s.cardSlot.map (Option.map resetCard))).setTap (s.tap.map (Option.map resetTap))

/-- `DeselectAll()` (R189). -/
def deselectAll (s : State) : State :=
  (resetDevices s).setActiveDevice .none

/-! ## Begin and end of a transfer (R140, R142, R153) -/

/-- `CanTransfer()` (R140). -/
def canTransfer (s : State) : Bool :=
  s.transmitFull && selected s.ctrl && txen s.ctrl && (!s.params.startRequiresRxEmpty || !s.receiveFull)

/-- `BeginTransfer()` (R142). -/
def beginTransfer (s : State) : State :=
  let s := s.setCtrl (withRxen s.ctrl)
  let s := s.setInFlight s.transmitBuffer
  let s := s.setTransmitFull false
  let s := s.setBusState .transmitting
  updateStatus (sched (max 1 (Config.transferTicks s.mode s.baud)) s)

/-- `EndTransfer()` (R153). -/
def endTransfer (s : State) : State :=
  updateStatus (deact (s.setBusState .idle))

/-! ## The transfer tick (R143 to R149) -/

/-- The byte and acknowledge of a tick in which no device was offered the byte (R145, R146, D11). -/
def noDevice (s : State) : Reply := nacked s.params.noDeviceByte

/-- The multitap's part of R145: it alone is offered the byte, and is locked where it acknowledges. -/
def arbitrateTap (p : Port) (b : Byte) (s : State) : State × Reply :=
  let e := exchangeTap p b s
  let r := e.2.getD (noDevice s)
  (if r.ack then e.1.setActiveDevice .multitap else e.1, r)

/-- The memory card's part of R145, after the controller's answer `r`, which stands where there is no card. -/
def arbitrateCard (idx : Slot) (b : Byte) (r : Reply) (s : State) : State × Reply :=
  let e := exchangeCard idx b s
  let r' := e.2.getD r
  (if r'.ack then e.1.setActiveDevice .memoryCard else e.1, r')

/-- The controller's part of R145, and the memory card's where the controller does not acknowledge. -/
def arbitrateSlot (idx : Slot) (b : Byte) (s : State) : State × Reply :=
  let e := exchangeController idx b s
  let r := e.2.getD (noDevice s)
  if r.ack then (e.1.setActiveDevice .controller, r) else arbitrateCard idx b r e.1

/-- Whether the port's multitap takes the byte alone (R145, D10). -/
def tapTakesByte (p : Port) (s : State) : Bool :=
  match s.tap[p] with
  | some t => Config.tapEnabled t
  | none => false

/-- `Arbitrate` with no locked device (R145): whichever device acknowledges is locked. -/
def arbitrateFree (p : Port) (idx : Slot) (b : Byte) (s : State) : State × Reply :=
  if tapTakesByte p s then arbitrateTap p b s else arbitrateSlot idx b s

/-- `Arbitrate` (R145, R146): the locked device alone where one is locked. -/
def arbitrate (p : Port) (idx : Slot) (b : Byte) (s : State) : State × Reply :=
  match s.activeDevice with
  | .none => arbitrateFree p idx b s
  | .controller => ((exchangeController idx b s).1, (exchangeController idx b s).2.getD (noDevice s))
  | .memoryCard => ((exchangeCard idx b s).1, (exchangeCard idx b s).2.getD (noDevice s))
  | .multitap => ((exchangeTap p b s).1, (exchangeTap p b s).2.getD (noDevice s))

/-- `CardClass(p)` (R149). -/
def cardClass (p : Port) (s : State) : Bool :=
  match s.activeDevice with
  | .memoryCard => true
  | .multitap =>
    match s.tap[p] with
    | some t => Config.tapAddressedIsCard t
    | none => false
  | .none => false
  | .controller => false

/-- The acknowledge delay of the device class that answered (R148, R149). -/
def ackTicks (p : Port) (s : State) : Nat :=
  if cardClass p s then Config.ackTicksCard else Config.ackTicksCtrl

/-- `AckWait(p)` (R148). -/
def ackWait (p : Port) (s : State) : State :=
  updateStatus (sched (ackTicks p s) (s.setBusState .waitingForAck))

/-- `Latch(out, ack, p)` (R147). -/
def latch (r : Reply) (p : Port) (s : State) : State :=
  let s := (s.setReceiveBuffer r.byte).setReceiveFull true
  if r.ack then ackWait p s else endTransfer (s.setActiveDevice .none)

/-- `TransferTick()` (R143, R144). -/
def transferTick (s : State) : State :=
  let p := selectedPort s
  let a := arbitrate p (deviceIndex p s) s.inFlight s
  latch a.2 p a.1

/-! ## The acknowledge tick and the event (R141, R150 to R152) -/

/-- `AckTick()` (R150, R151). -/
def ackTick (s : State) : State :=
  let s := s.setStat (withAckin s.stat true)
  let s := if ackinten s.ctrl then raiseIrq s else s
  let s := endTransfer s
  if canTransfer s then beginTransfer s else s

/-- What the event's firing runs, by the bus state (R141). -/
def fireEvent (s : State) : State :=
  match s.busState with
  | .transmitting => transferTick s
  | .waitingForAck => ackTick s
  | .idle => deact s

/-- Whether the scheduler may fire the event (R141). -/
def eventEnabled (s : State) : Bool :=
  s.ev.active && decide (s.ev.deadline ≤ s.now)

/-- How many ticks after its deadline the event fires: 0 where `MAX_LATENESS = 0`, else a free value of at most
`MAX_LATENESS` (R280, item 9, log 9). -/
def lateness (s : State) : Nat :=
  if s.params.maxLateness = 0 then 0 else Config.freeLateness s.draws % (s.params.maxLateness + 1)

/-- Whether the event fires before any other agent's next step (R85, R110, R306, log 9). -/
def eventDue (s : State) : Bool :=
  s.ev.active && decide (s.ev.deadline + lateness s ≤ s.now)

/-- `InvokeEarly()` (R152). -/
def invokeEarly (s : State) : State :=
  if s.busState = .transmitting ∧ (s.params.invokeEarly = .always ∨ s.ev.deadline ≤ s.now) then transferTick s else s

/-! ## Resets of the block (R160, R331) -/

/-- `SoftReset()` (R160). -/
def softReset (s : State) : State :=
  let s := deact (s.setBusState .idle)
  let s := (((s.setCtrl 0x0000#16).setStat 0x00000000#32).setMode 0x0000#16).setBaud 0x0000#16
  let s := (s.setTransmitBuffer 0x00#8).setTransmitFull false
  let s := (s.setReceiveBuffer 0x00#8).setReceiveFull false
  let s := (s.setInFlight 0x00#8).setActiveDevice .none
  updateStatus (resetDevices s)

/-! ## Register accesses (R111 to R124) -/

/-- `RD.DATA(w)` (R111). -/
def readData (w : Width) (s : State) : State :=
  let s := invokeEarly s
  let b := if s.params.rxEmptyRead = .allOnes ∧ s.receiveFull = false then 0xFF#8 else s.receiveBuffer
  answer w (replicateByte w b) (updateStatus (s.setReceiveFull false))

/-- `WR.DATA(w, v)` (R112). -/
def writeData (v : Word) (s : State) : State :=
  let s := (s.setTransmitBuffer (v.setWidth 8)).setTransmitFull true
  updateStatus (if s.busState = .idle ∧ canTransfer s then beginTransfer s else s)

/-- `RD.STAT(w)` (R113). -/
def readStat (w : Width) (s : State) : State :=
  let s := invokeEarly s
  answer w s.stat (s.setStat (withAckin s.stat false))

/-- `RD.MODE(w)` (R115). -/
def readMode (w : Width) (s : State) : State :=
  answer w (s.mode.setWidth 32) s

/-- `WR.MODE(w, v)` (R116). -/
def writeMode (w : Width) (v : Word) (s : State) : State :=
  s.setMode (storeHalf w v)

/-- `RD.CTRL(w)` (R117). -/
def readCtrl (w : Width) (s : State) : State :=
  answer w (s.ctrl.setWidth 32) s

/-- Steps (b) to (d) of a CTRL write, on the level of CTRL as it stands after step (a) (R118, D8). -/
def applyCtrl (s : State) : State :=
  let s := if ackBit s.ctrl then clearIrq s else s
  let s := if selected s.ctrl then s else deselectAll s
  let s :=
    if selected s.ctrl && txen s.ctrl then
      if s.busState = .idle ∧ canTransfer s then beginTransfer s else s
    else
      if s.busState = .idle then s else endTransfer s
  updateStatus s

/-- A CTRL write of a 16-bit value: the value is stored, then steps (a) to (d) follow in order (R118). -/
def storeCtrl (v : BitVec 16) (s : State) : State :=
  let s := s.setCtrl v
  applyCtrl (if resetBit s.ctrl then softReset s else s)

/-- `WR.CTRL(w, v)` (R118). -/
def writeCtrl (w : Width) (v : Word) (s : State) : State :=
  storeCtrl (storeHalf w v) s

/-- `RD.MODECTRL()` (R119). -/
def readModectrl (s : State) : State :=
  answer .w32 (s.ctrl ++ s.mode) s

/-- `WR.MODECTRL(v)` (R120). -/
def writeModectrl (v : Word) (s : State) : State :=
  writeCtrl .w16 ((v.extractLsb' 16 16).setWidth 32) (s.setMode (v.extractLsb' 0 16))

/-- `RD.BAUD(w)` (R121). -/
def readBaud (w : Width) (s : State) : State :=
  answer w (s.baud.setWidth 32) s

/-- `WR.BAUD(w, v)` (R122). -/
def writeBaud (w : Width) (v : Word) (s : State) : State :=
  s.setBaud (storeHalf w v)

/-- `RD.UNDEF(off, w)` (R123). -/
def readUndef (w : Width) (s : State) : State :=
  answer w (allOnes w) s

/-! ## The passage of time (R280) -/

/-- The tick at which the event fires within an advance to `target` (R280). -/
def firingTick (target : Nat) (s : State) : Nat :=
  min target (max s.now (s.ev.deadline + lateness s))

/-- The loop of `ADVANCE`, at most `n` firings; `n + 1` firings always suffice for an advance by `n` ticks, because every
firing leaves the event inactive or with a later deadline (R280). -/
def advanceTo (target : Nat) : Nat → State → State
  | 0, s => s.setNow target
  | n + 1, s =>
    if s.ev.active && decide (s.ev.deadline ≤ target) then
      advanceTo target n (fireEvent (s.setNow (firingTick target s)))
    else s.setNow target

/-- `ADVANCE(n)` (R280). -/
def advanceBy (n : Nat) (s : State) : State :=
  advanceTo (s.now + n) (n + 1) s

/-! ## Slot management and input (R271 to R279) -/

/-- `ATTACH.CTRL` (R271). -/
def attachAt (i : Slot) (c : CtrlInit) (s : State) : State :=
  (putController i (some (attachController s.params c (Config.freeGunPos s.draws))) s).setDraws (s.draws + 1)

/-- `TAKE.CARD` (R275). -/
def takeCardAt (i : Slot) (s : State) : State :=
  (putCard i none s).setReturned (some (.card s.cardSlot[i]))

/-- A multitap as it is bound: in its `Idle` transfer state (R276). -/
def boundTap (t : Tap) : Tap := { t with ts := 0 }

/-- Change the controller of a slot; an empty slot stays empty (R277 to R279). -/
def modifyController (i : Slot) (f : Controller → Controller) (s : State) : State :=
  putController i (s.ctrlSlot[i].map f) s

/-! ## The device rows on their own (R97, log 7) -/

/-- The twist controller of a slot, where it is in transfer state `ts`. -/
def twistAt (i : Slot) (ts : TwistState) (s : State) : Option Twist :=
  match s.ctrlSlot[i] with
  | some (.twist d) => if d.ts = ts then some d else none
  | _ => none

/-- The light gun of a slot, where it is in transfer state `gs`. -/
def gunAt (i : Slot) (gs : GunState) (s : State) : Option Gun :=
  match s.ctrlSlot[i] with
  | some (.gun d) => if d.gs = gs then some d else none
  | _ => none

/-- A row of the twist controller's packet: the exchange `f`, its reply handed back. -/
def twistRow (i : Slot) (ts : TwistState) (f : Twist → Twist × Reply) (s : State) : Host.Outcome State Fault Refusal :=
  match twistAt i ts s with
  | some d => .next ((putController i (some (.twist (f d).1)) s).setReturned (some (.reply (f d).2)))
  | none => .refused .exchangeNotAdmitted

/-- A row of the light gun's packet: the exchange `f`, its reply handed back. -/
def gunRow (i : Slot) (gs : GunState) (f : Gun → Gun × Reply) (s : State) : Host.Outcome State Fault Refusal :=
  match gunAt i gs s with
  | some d => .next ((putController i (some (.gun (f d).1)) s).setReturned (some (.reply (f d).2)))
  | none => .refused .exchangeNotAdmitted

/-- A row of an abstract model: the exchange's reply handed back, where a device is there. -/
def modelRow (e : State × Option Reply) : Host.Outcome State Fault Refusal :=
  match e.2 with
  | some r => .next (e.1.setReturned (some (.reply r)))
  | none => .refused .exchangeNotAdmitted

end Sys2Proof.Machine
end

