-- ==== Sys2Proof/Machine/Bus.lean ====
section
/-! DEFINITION. The meanings of the register accesses (R111 to R124). -/

namespace Sys2Proof.Machine

/-- `RD.DATA.8` (R111). -/
def execRdData8 (s : State) : Host.Outcome State Fault Refusal :=
  .next (readData .w8 s)

/-- `WR.DATA.8` (R112). -/
def execWrData8 (v : Word) (s : State) : Host.Outcome State Fault Refusal :=
  .next (writeData v s)

/-- `RD.DATA.16` (R111). -/
def execRdData16 (s : State) : Host.Outcome State Fault Refusal :=
  .next (readData .w16 s)

/-- `WR.DATA.16` (R112). -/
def execWrData16 (v : Word) (s : State) : Host.Outcome State Fault Refusal :=
  .next (writeData v s)

/-- `RD.DATA.32` (R111). -/
def execRdData32 (s : State) : Host.Outcome State Fault Refusal :=
  .next (readData .w32 s)

/-- `WR.DATA.32` (R112). -/
def execWrData32 (v : Word) (s : State) : Host.Outcome State Fault Refusal :=
  .next (writeData v s)

/-- `RD.STAT.8` (R113). -/
def execRdStat8 (s : State) : Host.Outcome State Fault Refusal :=
  .next (readStat .w8 s)

/-- `WR.STAT.8` (R114): STAT has no writable field. -/
def execWrStat8 (_v : Word) (s : State) : Host.Outcome State Fault Refusal :=
  .next s

/-- `RD.STAT.16` (R113). -/
def execRdStat16 (s : State) : Host.Outcome State Fault Refusal :=
  .next (readStat .w16 s)

/-- `WR.STAT.16` (R114): STAT has no writable field. -/
def execWrStat16 (_v : Word) (s : State) : Host.Outcome State Fault Refusal :=
  .next s

/-- `RD.STAT.32` (R113). -/
def execRdStat32 (s : State) : Host.Outcome State Fault Refusal :=
  .next (readStat .w32 s)

/-- `WR.STAT.32` (R114): STAT has no writable field. -/
def execWrStat32 (_v : Word) (s : State) : Host.Outcome State Fault Refusal :=
  .next s

/-- `RD.MODE.8` (R115). -/
def execRdMode8 (s : State) : Host.Outcome State Fault Refusal :=
  .next (readMode .w8 s)

/-- `WR.MODE.8` (R116). -/
def execWrMode8 (v : Word) (s : State) : Host.Outcome State Fault Refusal :=
  .next (writeMode .w8 v s)

/-- `RD.MODE.16` (R115). -/
def execRdMode16 (s : State) : Host.Outcome State Fault Refusal :=
  .next (readMode .w16 s)

/-- `WR.MODE.16` (R116). -/
def execWrMode16 (v : Word) (s : State) : Host.Outcome State Fault Refusal :=
  .next (writeMode .w16 v s)

/-- `RD.MODECTRL` (R119). -/
def execRdModectrl (s : State) : Host.Outcome State Fault Refusal :=
  .next (readModectrl s)

/-- `WR.MODECTRL` (R120). -/
def execWrModectrl (v : Word) (s : State) : Host.Outcome State Fault Refusal :=
  .next (writeModectrl v s)

/-- `RD.CTRL.8` (R117). -/
def execRdCtrl8 (s : State) : Host.Outcome State Fault Refusal :=
  .next (readCtrl .w8 s)

/-- `WR.CTRL.8` (R118). -/
def execWrCtrl8 (v : Word) (s : State) : Host.Outcome State Fault Refusal :=
  .next (writeCtrl .w8 v s)

/-- `RD.CTRL.16` (R117). -/
def execRdCtrl16 (s : State) : Host.Outcome State Fault Refusal :=
  .next (readCtrl .w16 s)

/-- `WR.CTRL.16` (R118). -/
def execWrCtrl16 (v : Word) (s : State) : Host.Outcome State Fault Refusal :=
  .next (writeCtrl .w16 v s)

/-- `RD.BAUD.8` (R121). -/
def execRdBaud8 (s : State) : Host.Outcome State Fault Refusal :=
  .next (readBaud .w8 s)

/-- `WR.BAUD.8` (R122). -/
def execWrBaud8 (v : Word) (s : State) : Host.Outcome State Fault Refusal :=
  .next (writeBaud .w8 v s)

/-- `RD.BAUD.16` (R121). -/
def execRdBaud16 (s : State) : Host.Outcome State Fault Refusal :=
  .next (readBaud .w16 s)

/-- `WR.BAUD.16` (R122). -/
def execWrBaud16 (v : Word) (s : State) : Host.Outcome State Fault Refusal :=
  .next (writeBaud .w16 v s)

/-- `RD.UNDEF` (R123). -/
def execRdUndef (w : Width) (_off : BitVec 4) (s : State) : Host.Outcome State Fault Refusal :=
  .next (readUndef w s)

/-- `WR.UNDEF` (R124): undefined offsets ignore writes. -/
def execWrUndef (_w : Width) (_off : BitVec 4) (_v : Word) (s : State) : Host.Outcome State Fault Refusal :=
  .next s

end Sys2Proof.Machine
end

