-- ==== Sys2Proof/Machine/Events.lean ====
section
/-! DEFINITION. The meanings of the scheduler's event words (R95, R141, R143, R150). -/

namespace Sys2Proof.Machine

/-- `EVT.FIRE` (R141). -/
def execEvtFire (s : State) : Host.Outcome State Fault Refusal :=
  if eventEnabled s then .next (fireEvent s) else .refused .eventNotEnabled

/-- `EVT.XFER` (R95, R143): admitted only in `Transmitting`. -/
def execEvtXfer (s : State) : Host.Outcome State Fault Refusal :=
  if s.busState = .transmitting then
    if eventEnabled s then .next (transferTick s) else .refused .eventNotEnabled
  else .refused .eventNotAdmitted

/-- `EVT.ACK` (R95, R150): admitted only in `WaitingForAck`. -/
def execEvtAck (s : State) : Host.Outcome State Fault Refusal :=
  if s.busState = .waitingForAck then
    if eventEnabled s then .next (ackTick s) else .refused .eventNotEnabled
  else .refused .eventNotAdmitted

end Sys2Proof.Machine
end

