-- ==== Sys2Proof/Machine/GunRows.lean ====
section
/-! DEFINITION. The meanings of the light gun's rows (R244 to R252): the exchange on its own (log 7). -/

namespace Sys2Proof.Machine

/-- `GUN.IDLE_SEL` (R244). -/
def execGunIdleSel (i : Slot) (s : State) : Host.Outcome State Fault Refusal :=
  gunRow i .idle (gunIdleSel s.params) s

/-- `GUN.IDLE_MISS` (R244). -/
def execGunIdleMiss (i : Slot) (b : Byte) (s : State) : Host.Outcome State Fault Refusal :=
  if b = 0x01#8 then .refused .exchangeNotAdmitted else gunRow i .idle (gunIdleMiss s.params) s

/-- `GUN.READY_CLASS` (R245). -/
def execGunReadyClass (i : Slot) (s : State) : Host.Outcome State Fault Refusal :=
  gunRow i .ready gunReadyClass s

/-- `GUN.READY_MISS` (R245). -/
def execGunReadyMiss (i : Slot) (b : Byte) (s : State) : Host.Outcome State Fault Refusal :=
  if b = 0x42#8 then .refused .exchangeNotAdmitted else gunRow i .ready (gunReadyMiss s.params) s

/-- `GUN.IDMSB` (R246). -/
def execGunIdmsb (i : Slot) (_b : Byte) (s : State) : Host.Outcome State Fault Refusal :=
  gunRow i .idMsb gunIdmsb s

/-- `GUN.BTNLSB` (R247). -/
def execGunBtnlsb (i : Slot) (_b : Byte) (s : State) : Host.Outcome State Fault Refusal :=
  gunRow i .buttonsLsb gunBtnlsb s

/-- `GUN.BTNMSB` (R248). -/
def execGunBtnmsb (i : Slot) (_b : Byte) (s : State) : Host.Outcome State Fault Refusal :=
  gunRow i .buttonsMsb gunBtnmsb s

/-- `GUN.XLSB` (R249). -/
def execGunXlsb (i : Slot) (_b : Byte) (s : State) : Host.Outcome State Fault Refusal :=
  gunRow i .xLsb gunXlsb s

/-- `GUN.XMSB` (R250). -/
def execGunXmsb (i : Slot) (_b : Byte) (s : State) : Host.Outcome State Fault Refusal :=
  gunRow i .xMsb gunXmsb s

/-- `GUN.YLSB` (R251). -/
def execGunYlsb (i : Slot) (_b : Byte) (s : State) : Host.Outcome State Fault Refusal :=
  gunRow i .yLsb gunYlsb s

/-- `GUN.YMSB` (R252). -/
def execGunYmsb (i : Slot) (_b : Byte) (s : State) : Host.Outcome State Fault Refusal :=
  gunRow i .yMsb gunYmsb s

end Sys2Proof.Machine
end

