-- ==== Sys2Proof/Machine/Restore.lean ====
section
/-! DEFINITION. Snapshot and restore (R281 to R286). -/

namespace Sys2Proof.Machine

/-- What a snapshot records of the block (R281). -/
def capture (s : State) : Image where
  ctrl := s.ctrl
  stat := s.stat
  mode := s.mode
  baud := s.baud
  transmitBuffer := s.transmitBuffer
  transmitFull := s.transmitFull
  receiveBuffer := s.receiveBuffer
  receiveFull := s.receiveFull
  inFlight := s.inFlight
  busState := s.busState
  activeDevice := s.activeDevice
  evActive := s.ev.active
  evRemaining := (s.ev.deadline : Int) - (s.now : Int)
  ctrlSlot := s.ctrlSlot
  cardSlot := s.cardSlot
  tap := s.tap

/-- The recorded value where the snapshot's version holds the field, else the live value (R286). -/
def pick {α : Type} (has : Bool) (recorded live : α) : α :=
  if has then recorded else live

/-- The bits among `bits` taken from the recorded value where the snapshot's version holds them, every other bit live (R286). -/
def pickAmong {n : Nat} (has : Fin n → Bool) (recorded live : BitVec n) : List (Fin n) → BitVec n
  | [] => live
  | k :: bits =>
    setBit (pickAmong has recorded live bits) k.val (pick (has k) (recorded.getLsbD k.val) (live.getLsbD k.val))

/-- A value whose bits are fields of their own, each recorded or live (R286). -/
def pickBits {n : Nat} (has : Fin n → Bool) (recorded live : BitVec n) : BitVec n :=
  pickAmong has recorded live (List.finRange n)

/-- Restore the controller of slot `i`, of the recorded variant, field by field, unassigned button bits cleared (log 27); a device
of another variant is reset (R283, R286). -/
def restoreSameVariant (p : Params) (has : SnapField → Bool) (i : Slot) (recorded : Option Controller) (live : Controller) :
    Controller :=
  match live, recorded with
  | .pad d, some (.pad r) =>
    .pad { ts := pick (has (.padTs i)) r.ts d.ts, inputs := pick (has (.padInputs i)) r.inputs d.inputs }
  | .twist d, some (.twist r) =>
    .twist {
      ts := pick (has (.twistTs i)) r.ts d.ts
      inputs := {
        pressed := pickBits (fun k => has (.twistPressed i k)) (twistPressed p r.inputs.pressed) d.inputs.pressed
        steer := pick (has (.twistSteer i)) r.inputs.steer d.inputs.steer
        axI := pick (has (.twistAxI i)) r.inputs.axI d.inputs.axI
        axII := pick (has (.twistAxII i)) r.inputs.axII d.inputs.axII
        axL := pick (has (.twistAxL i)) r.inputs.axL d.inputs.axL } }
  | .gun d, some (.gun r) =>
    .gun {
      gs := pick (has (.gunGs i)) r.gs d.gs
      inputs := {
        pressed := pickBits (fun k => has (.gunPressed i k)) (gunPressed p r.inputs.pressed) d.inputs.pressed
        offscreen := pick (has (.gunOffscreen i)) r.inputs.offscreen d.inputs.offscreen
        ptr := pick (has (.gunPtr i)) r.inputs.ptr d.inputs.ptr }
      pos := { x := pick (has (.gunPosX i)) r.pos.x d.pos.x, y := pick (has (.gunPosY i)) r.pos.y d.pos.y } }
  | d, _ => resetController d

/-- Restore the controller of slot `i`; a version that has no record of that slot leaves it as it is (R286, log 18). -/
def restoreController (p : Params) (has : SnapField → Bool) (i : Slot) (recorded : Option Controller) (live : Controller) :
    Controller :=
  pick (has (.ctrlSlot i)) (restoreSameVariant p has i recorded live) live

/-- Whether two card contents are the same content (R284, item 14, log 11). -/
def sameContents (a b : List Byte) : Bool :=
  Config.cardContentKey a == Config.cardContentKey b

/-- Restore the memory card of slot `i` against the slot's record: one whose contents differ keeps them and is reset, and so does
one the record has no card for (R283, R284, R286). -/
def restoreSameCard (has : SnapField → Bool) (i : Slot) (recorded : Option Card) (live : Card) : Card :=
  match recorded with
  | none => resetCard live
  | some r =>
    if has (.cardContents i) && !sameContents r.contents live.contents then resetCard live
    else { ts := pick (has (.cardTs i)) r.ts live.ts, contents := pick (has (.cardContents i)) r.contents live.contents }

/-- Restore the memory card of slot `i`; a version that has no record of that slot leaves it as it is (R286, log 18). -/
def restoreCard (has : SnapField → Bool) (i : Slot) (recorded : Option Card) (live : Card) : Card :=
  pick (has (.cardSlot i)) (restoreSameCard has i recorded live) live

/-- Restore the multitap of port `p` against the port's record (R281, R286). R283 speaks of slots only; that a port is treated
like one, so that a multitap bound where the record has none is reset, its addressing included, is the model's (log 28,
DESIGN CHOICE). -/
def restoreSameTap (has : SnapField → Bool) (p : Port) (recorded : Option Tap) (live : Tap) : Tap :=
  match recorded with
  | none => resetTap live
  | some r =>
    { ts := pick (has (.tapTs p)) r.ts live.ts
      addressing := pick (has (.tapAddressing p)) r.addressing live.addressing
      settings := pick (has (.tapSettings p)) r.settings live.settings }

/-- Restore the multitap of port `p`; a version that has no record of that port leaves it as it is (R286, log 18). Where it
records that the port has none, see `restoreSameTap` (log 28). -/
def restoreTap (has : SnapField → Bool) (p : Port) (recorded : Option Tap) (live : Tap) : Tap :=
  pick (has (.tap p)) (restoreSameTap has p recorded live) live

/-- Restore the devices attached now; which devices are attached does not change (R282, R283). -/
def restoreDevices (has : SnapField → Bool) (img : Image) (s : State) : State :=
  ((s.setCtrlSlot (Vector.ofFn fun i : Slot => s.ctrlSlot[i].map (restoreController s.params has i img.ctrlSlot[i]))).setCardSlot
    (Vector.ofFn fun i : Slot => s.cardSlot[i].map (restoreCard has i img.cardSlot[i]))).setTap
      (Vector.ofFn fun p : Port => s.tap[p].map (restoreTap has p img.tap[p]))

/-- Restore the registers, the latches, `busState` and `activeDevice`, each from the snapshot where its version holds it, CTRL and
STAT bit by bit (R282, R286). -/
def restoreRegisters (has : SnapField → Bool) (img : Image) (s : State) : State :=
  { s with
    ctrl := pickBits (fun k => has (.ctrl k)) img.ctrl s.ctrl
    stat := pickBits (fun k => has (.stat k)) img.stat s.stat
    mode := pick (has .mode) img.mode s.mode
    baud := pick (has .baud) img.baud s.baud
    transmitBuffer := pick (has .transmitBuffer) img.transmitBuffer s.transmitBuffer
    transmitFull := pick (has .transmitFull) img.transmitFull s.transmitFull
    receiveBuffer := pick (has .receiveBuffer) img.receiveBuffer s.receiveBuffer
    receiveFull := pick (has .receiveFull) img.receiveFull s.receiveFull
    inFlight := pick (has .inFlight) img.inFlight s.inFlight
    busState := pick (has .busState) img.busState s.busState
    activeDevice := pick (has .activeDevice) img.activeDevice s.activeDevice }

/-- The event after a restore: each of its two fields from the snapshot where its version holds it, a restored deadline counting
from `now` (R44, R282, R286). -/
def restoredEvent (has : SnapField → Bool) (img : Image) (s : State) : Event where
  active := pick (has .evActive) img.evActive s.ev.active
  deadline := pick (has .evRemaining) ((s.now : Int) + img.evRemaining).toNat s.ev.deadline

/-- Restore the event. Where the snapshot's version holds either of its fields it is scheduled anew, so its lateness is a fresh
free draw (R280, log 9). -/
def restoreEvent (has : SnapField → Bool) (img : Image) (s : State) : State :=
  if has .evActive || has .evRemaining then (s.setEv (restoredEvent has img s)).setDraws (s.draws + 1) else s

/-- Restore the block from an intact snapshot (R282, R283, R284, R286); the status recompute at the end keeps R52 for a version
that lacks a field (log 21). -/
def restoreImage (has : SnapField → Bool) (img : Image) (s : State) : State :=
  updateStatus (restoreDevices has img (restoreEvent has img (restoreRegisters has img s)))

/-- A failed restore: every element of the block is a free draw and the run is marked (R285, item 21, log 19). -/
def scramble (s : State) : State :=
  let f := Config.freeBlock s.draws
  { ctrl := f.image.ctrl
    stat := f.image.stat
    mode := f.image.mode
    baud := f.image.baud
    transmitBuffer := f.image.transmitBuffer
    transmitFull := f.image.transmitFull
    receiveBuffer := f.image.receiveBuffer
    receiveFull := f.image.receiveFull
    inFlight := f.image.inFlight
    busState := f.image.busState
    activeDevice := f.image.activeDevice
    ev := { active := f.image.evActive, deadline := f.deadline }
    now := f.now
    ctrlSlot := f.image.ctrlSlot
    cardSlot := f.image.cardSlot
    tap := f.image.tap
    outputs := f.outputs
    restoreFailed := true
    params := s.params
    pending := s.pending
    returned := s.returned
    draws := s.draws + 1 }

/-- `RESTORE` (R282, R285). -/
def restoreFrom (st : SnapStream) (s : State) : State :=
  match st with
  | .intact v img => (restoreImage (Config.versionHas v) img s).setReturned (some (.restored true))
  | .broken => (scramble s).setReturned (some (.restored false))

/-- `SNAPSHOT` (R281). -/
def takeSnapshot (s : State) : State :=
  s.setReturned (some (.snapshot (.intact Config.snapshotVersion (capture s))))

end Sys2Proof.Machine
end

