-- ==== Sys2Proof/Machine/HostOps.lean ====
section
/-! DEFINITION. The meanings of the host operations (R271 to R282, R331). -/

namespace Sys2Proof.Machine

/-- `ADVANCE` (R280). -/
def execAdvance (n : Nat) (s : State) : Host.Outcome State Fault Refusal :=
  .next (advanceBy n s)

/-- `ATTACH.CTRL` (R271). -/
def execAttachCtrl (i : Slot) (c : CtrlInit) (s : State) : Host.Outcome State Fault Refusal :=
  .next (attachAt i c s)

/-- `DETACH.CTRL` (R272). -/
def execDetachCtrl (i : Slot) (s : State) : Host.Outcome State Fault Refusal :=
  .next (putController i none s)

/-- `ATTACH.CARD` (R273). -/
def execAttachCard (i : Slot) (c : Card) (s : State) : Host.Outcome State Fault Refusal :=
  .next (putCard i (some (resetCard c)) s)

/-- `DETACH.CARD` (R274). -/
def execDetachCard (i : Slot) (s : State) : Host.Outcome State Fault Refusal :=
  .next (putCard i none s)

/-- `TAKE.CARD` (R275). -/
def execTakeCard (i : Slot) (s : State) : Host.Outcome State Fault Refusal :=
  .next (takeCardAt i s)

/-- `SET.TAP` (R276). -/
def execSetTap (p : Port) (t : Option Tap) (s : State) : Host.Outcome State Fault Refusal :=
  .next (putTap p (t.map boundTap) s)

/-- `SET.BUTTON` (R277). -/
def execSetButton (i : Slot) (b : Nat) (pressed : Bool) (s : State) : Host.Outcome State Fault Refusal :=
  .next (modifyController i (controllerSetButton s.params b pressed) s)

/-- `SET.AXIS` (R278). -/
def execSetAxis (i : Slot) (a : Nat) (x : RealNum) (s : State) : Host.Outcome State Fault Refusal :=
  .next (modifyController i (controllerSetAxis s.params a x) s)

/-- `SET.POINTER` (R279). -/
def execSetPointer (i : Slot) (ptr : Option Pointer) (s : State) : Host.Outcome State Fault Refusal :=
  .next (modifyController i (controllerSetPointer ptr) s)

/-- `SNAPSHOT` (R281). -/
def execSnapshot (s : State) : Host.Outcome State Fault Refusal :=
  .next (takeSnapshot s)

/-- `RESTORE` (R282 to R286). -/
def execRestore (st : SnapStream) (s : State) : Host.Outcome State Fault Refusal :=
  .next (restoreFrom st s)

/-- `SYSRESET` (R331). -/
def execSysreset (s : State) : Host.Outcome State Fault Refusal :=
  .next (softReset s)

end Sys2Proof.Machine
end

