-- ==== Sys2Proof/Machine/ModelRows.lean ====
section
/-! DEFINITION. The meanings of the abstract models' rows (R186 to R188): the exchange on its own (log 7). -/

namespace Sys2Proof.Machine

/-- `PAD.TRANSFER` (R186). -/
def execPadTransfer (i : Slot) (b : Byte) (s : State) : Host.Outcome State Fault Refusal :=
  match s.ctrlSlot[i] with
  | some (.pad _) => modelRow (exchangeController i b s)
  | _ => .refused .exchangeNotAdmitted

/-- `CARD.TRANSFER` (R187). -/
def execCardTransfer (i : Slot) (b : Byte) (s : State) : Host.Outcome State Fault Refusal :=
  modelRow (exchangeCard i b s)

/-- `TAP.TRANSFER` (R188). -/
def execTapTransfer (p : Port) (b : Byte) (s : State) : Host.Outcome State Fault Refusal :=
  modelRow (exchangeTap p b s)

end Sys2Proof.Machine
end

