-- ==== Sys2Proof/Machine/Pseudo.lean ====
section
/-! DEFINITION. The meanings of the pseudo-instructions, each that of its expansion (R100). -/

namespace Sys2Proof.Machine

/-- `SELECT` (R100). -/
def execSelect (p : Port) (s : State) : Host.Outcome State Fault Refusal :=
  .next (writeCtrl .w16 (selectValue p) s)

/-- `SELECTQ` (R100). -/
def execSelectq (p : Port) (s : State) : Host.Outcome State Fault Refusal :=
  .next (writeCtrl .w16 (selectqValue p) s)

/-- `ACKCLR` (R100). -/
def execAckclr (c : BitVec 16) (s : State) : Host.Outcome State Fault Refusal :=
  .next (writeCtrl .w16 (ackclrValue c) s)

/-- `DESELECT` (R100). -/
def execDeselect (s : State) : Host.Outcome State Fault Refusal :=
  .next (writeCtrl .w16 deselectValue s)

/-- `SRESET` (R100). -/
def execSreset (s : State) : Host.Outcome State Fault Refusal :=
  .next (writeCtrl .w16 sresetValue s)

/-- `SEND` (R100). -/
def execSend (b : Byte) (s : State) : Host.Outcome State Fault Refusal :=
  .next (writeData (b.setWidth 32) s)

/-- `WAIT` (R100). -/
def execWait (n : Nat) (s : State) : Host.Outcome State Fault Refusal :=
  .next (advanceBy n s)

end Sys2Proof.Machine
end

