-- ==== Sys2Proof/Machine/TwistRows.lean ====
section
/-! DEFINITION. The meanings of the twist controller's rows (R214 to R222): the exchange on its own (log 7). -/

namespace Sys2Proof.Machine

/-- `TW.IDLE_SEL` (R214). -/
def execTwIdleSel (i : Slot) (s : State) : Host.Outcome State Fault Refusal :=
  twistRow i .idle (twistIdleSel s.params) s

/-- `TW.IDLE_MISS` (R214). -/
def execTwIdleMiss (i : Slot) (b : Byte) (s : State) : Host.Outcome State Fault Refusal :=
  if b = 0x01#8 then .refused .exchangeNotAdmitted else twistRow i .idle (twistIdleMiss s.params) s

/-- `TW.READY_CLASS` (R215). -/
def execTwReadyClass (i : Slot) (s : State) : Host.Outcome State Fault Refusal :=
  twistRow i .ready twistReadyClass s

/-- `TW.READY_MISS` (R215). -/
def execTwReadyMiss (i : Slot) (b : Byte) (s : State) : Host.Outcome State Fault Refusal :=
  if b = 0x42#8 then .refused .exchangeNotAdmitted else twistRow i .ready (twistReadyMiss s.params) s

/-- `TW.IDMSB` (R216). -/
def execTwIdmsb (i : Slot) (_b : Byte) (s : State) : Host.Outcome State Fault Refusal :=
  twistRow i .idMsb twistIdmsb s

/-- `TW.BTNLSB` (R217). -/
def execTwBtnlsb (i : Slot) (_b : Byte) (s : State) : Host.Outcome State Fault Refusal :=
  twistRow i .buttonsLsb twistBtnlsb s

/-- `TW.BTNMSB` (R218). -/
def execTwBtnmsb (i : Slot) (_b : Byte) (s : State) : Host.Outcome State Fault Refusal :=
  twistRow i .buttonsMsb twistBtnmsb s

/-- `TW.STEER` (R219). -/
def execTwSteer (i : Slot) (_b : Byte) (s : State) : Host.Outcome State Fault Refusal :=
  twistRow i .steering twistSteer s

/-- `TW.AXI` (R220). -/
def execTwAxi (i : Slot) (_b : Byte) (s : State) : Host.Outcome State Fault Refusal :=
  twistRow i .axisI twistAxi s

/-- `TW.AXII` (R221). -/
def execTwAxii (i : Slot) (_b : Byte) (s : State) : Host.Outcome State Fault Refusal :=
  twistRow i .axisII twistAxii s

/-- `TW.AXL` (R222). -/
def execTwAxl (i : Slot) (_b : Byte) (s : State) : Host.Outcome State Fault Refusal :=
  twistRow i .axisL twistAxl s

end Sys2Proof.Machine
end

