-- ==== Sys2Proof/Machine/Dispatch.lean ====
section
/-! DEFINITION. The dispatch of operations to their meanings. -/

namespace Sys2Proof.Machine

/-- The meaning of every operation. -/
def exec (i : Instr) (s : State) : Host.Outcome State Fault Refusal :=
  match i with
  | .rdData8 => Sys2Proof.Machine.execRdData8 s
  | .wrData8 v => Sys2Proof.Machine.execWrData8 v s
  | .rdData16 => Sys2Proof.Machine.execRdData16 s
  | .wrData16 v => Sys2Proof.Machine.execWrData16 v s
  | .rdData32 => Sys2Proof.Machine.execRdData32 s
  | .wrData32 v => Sys2Proof.Machine.execWrData32 v s
  | .rdStat8 => Sys2Proof.Machine.execRdStat8 s
  | .wrStat8 v => Sys2Proof.Machine.execWrStat8 v s
  | .rdStat16 => Sys2Proof.Machine.execRdStat16 s
  | .wrStat16 v => Sys2Proof.Machine.execWrStat16 v s
  | .rdStat32 => Sys2Proof.Machine.execRdStat32 s
  | .wrStat32 v => Sys2Proof.Machine.execWrStat32 v s
  | .rdMode8 => Sys2Proof.Machine.execRdMode8 s
  | .wrMode8 v => Sys2Proof.Machine.execWrMode8 v s
  | .rdMode16 => Sys2Proof.Machine.execRdMode16 s
  | .wrMode16 v => Sys2Proof.Machine.execWrMode16 v s
  | .rdModectrl => Sys2Proof.Machine.execRdModectrl s
  | .wrModectrl v => Sys2Proof.Machine.execWrModectrl v s
  | .rdCtrl8 => Sys2Proof.Machine.execRdCtrl8 s
  | .wrCtrl8 v => Sys2Proof.Machine.execWrCtrl8 v s
  | .rdCtrl16 => Sys2Proof.Machine.execRdCtrl16 s
  | .wrCtrl16 v => Sys2Proof.Machine.execWrCtrl16 v s
  | .rdBaud8 => Sys2Proof.Machine.execRdBaud8 s
  | .wrBaud8 v => Sys2Proof.Machine.execWrBaud8 v s
  | .rdBaud16 => Sys2Proof.Machine.execRdBaud16 s
  | .wrBaud16 v => Sys2Proof.Machine.execWrBaud16 v s
  | .rdUndef w off => Sys2Proof.Machine.execRdUndef w off s
  | .wrUndef w off v => Sys2Proof.Machine.execWrUndef w off v s
  | .evtFire => Sys2Proof.Machine.execEvtFire s
  | .evtXfer => Sys2Proof.Machine.execEvtXfer s
  | .evtAck => Sys2Proof.Machine.execEvtAck s
  | .advance n => Sys2Proof.Machine.execAdvance n s
  | .attachCtrl k c => Sys2Proof.Machine.execAttachCtrl k c s
  | .detachCtrl k => Sys2Proof.Machine.execDetachCtrl k s
  | .attachCard k c => Sys2Proof.Machine.execAttachCard k c s
  | .detachCard k => Sys2Proof.Machine.execDetachCard k s
  | .takeCard k => Sys2Proof.Machine.execTakeCard k s
  | .setTap p t => Sys2Proof.Machine.execSetTap p t s
  | .setButton k b pressed => Sys2Proof.Machine.execSetButton k b pressed s
  | .setAxis k a x => Sys2Proof.Machine.execSetAxis k a x s
  | .setPointer k ptr => Sys2Proof.Machine.execSetPointer k ptr s
  | .snapshot => Sys2Proof.Machine.execSnapshot s
  | .restore st => Sys2Proof.Machine.execRestore st s
  | .sysreset => Sys2Proof.Machine.execSysreset s
  | .twIdleSel k => Sys2Proof.Machine.execTwIdleSel k s
  | .twIdleMiss k b => Sys2Proof.Machine.execTwIdleMiss k b s
  | .twReadyClass k => Sys2Proof.Machine.execTwReadyClass k s
  | .twReadyMiss k b => Sys2Proof.Machine.execTwReadyMiss k b s
  | .twIdmsb k b => Sys2Proof.Machine.execTwIdmsb k b s
  | .twBtnlsb k b => Sys2Proof.Machine.execTwBtnlsb k b s
  | .twBtnmsb k b => Sys2Proof.Machine.execTwBtnmsb k b s
  | .twSteer k b => Sys2Proof.Machine.execTwSteer k b s
  | .twAxi k b => Sys2Proof.Machine.execTwAxi k b s
  | .twAxii k b => Sys2Proof.Machine.execTwAxii k b s
  | .twAxl k b => Sys2Proof.Machine.execTwAxl k b s
  | .gunIdleSel k => Sys2Proof.Machine.execGunIdleSel k s
  | .gunIdleMiss k b => Sys2Proof.Machine.execGunIdleMiss k b s
  | .gunReadyClass k => Sys2Proof.Machine.execGunReadyClass k s
  | .gunReadyMiss k b => Sys2Proof.Machine.execGunReadyMiss k b s
  | .gunIdmsb k b => Sys2Proof.Machine.execGunIdmsb k b s
  | .gunBtnlsb k b => Sys2Proof.Machine.execGunBtnlsb k b s
  | .gunBtnmsb k b => Sys2Proof.Machine.execGunBtnmsb k b s
  | .gunXlsb k b => Sys2Proof.Machine.execGunXlsb k b s
  | .gunXmsb k b => Sys2Proof.Machine.execGunXmsb k b s
  | .gunYlsb k b => Sys2Proof.Machine.execGunYlsb k b s
  | .gunYmsb k b => Sys2Proof.Machine.execGunYmsb k b s
  | .padTransfer k b => Sys2Proof.Machine.execPadTransfer k b s
  | .cardTransfer k b => Sys2Proof.Machine.execCardTransfer k b s
  | .tapTransfer p b => Sys2Proof.Machine.execTapTransfer p b s
  | .select p => Sys2Proof.Machine.execSelect p s
  | .selectq p => Sys2Proof.Machine.execSelectq p s
  | .ackclr c => Sys2Proof.Machine.execAckclr c s
  | .deselect => Sys2Proof.Machine.execDeselect s
  | .sreset => Sys2Proof.Machine.execSreset s
  | .send b => Sys2Proof.Machine.execSend b s
  | .wait n => Sys2Proof.Machine.execWait n s

end Sys2Proof.Machine
end

