-- ==== Sys2Proof/Machine/Fetch.lean ====
section
/-! DEFINITION. Which operation the agents perform next, and how a table word is presented (R11, R306, log 5, 6). -/

namespace Sys2Proof.Machine

/-- Whether the scheduler's step comes first: the event is due and the next operation is not an `EVT` word itself (R306). -/
def schedulerFirst (s : State) : Bool :=
  eventDue s && !(s.pending.head?.any Op.isEvent)

/-- Present an operation as the very next one: no event is due before it (log 6). -/
def presentOp (op : Op) (s : State) : State :=
  let s := s.setPending (op :: s.pending)
  if eventDue s then s.setEv { s.ev with deadline := s.now + 1 } else s

/-- Present a firing of the event as the very next operation, in bus state `bus` (log 6). -/
def presentFiring (op : Op) (bus : BusState) (s : State) : State :=
  ((s.setPending (op :: s.pending)).setBusState bus).setEv { active := true, deadline := s.now }

/-- Present a byte to a twist controller of slot 0 in transfer state `ts`: the byte is in flight to port 0 and its transfer
tick is due (log 6). -/
def presentByte (b : Byte) (ts : TwistState) (s : State) : State :=
  let s := putTap 0 none (s.setCtrl (setBit s.ctrl 13 false))
  let s := putController 0 (some (.twist { ts := ts, inputs := TwistInputs.initial })) s
  let s := s.setActiveDevice (if ts = .idle then .none else .controller)
  presentFiring { word := 0x8000#16, operand := .none } .transmitting (s.setInFlight b)

/-- Present a table word as the very next operation (log 6, 20). -/
def presentWord (nbits w : Nat) (s : State) : State :=
  if nbits ≤ 8 then
    presentByte (BitVec.ofNat 8 w) (if BitVec.ofNat 8 w = 0x42#8 then .ready else .idle) s
  else
    match (tableOp w).word.toNat with
    | 0x8000 => presentFiring (tableOp w) (if s.busState = .idle then .transmitting else s.busState) s
    | 0x8001 => presentFiring (tableOp w) .transmitting s
    | 0x8002 => presentFiring (tableOp w) .waitingForAck s
    | _ => presentOp (tableOp w) s

end Sys2Proof.Machine
end

