-- ==== Sys2Proof/Machine/Step.lean ====
section
/-! DEFINITION. One step: the scheduler fires a due event, else the next operation of an agent is decoded and runs (R11, R306).
Where no event is due and no agent has an operation, nothing happens. -/

namespace Sys2Proof.Machine

/-- One step of the machine (R11, R94, R306, log 5). -/
def step (s : State) : Host.Outcome State Fault Refusal :=
  if schedulerFirst s then exec .evtFire s
  else
    match s.pending with
    | [] => .next s
    | op :: rest =>
      match decodeOp op with
      | .error e => .refused (.illegalWord e)
      | .ok i => exec i (s.setPending rest)

/-- The state in which the very next step fetches and runs the operation of a table word (log 6). -/
def State.withFetchWord (s : State) (nbits w : Nat) : State :=
  presentWord nbits w s

end Sys2Proof.Machine
end

