-- ==== Sys2Proof/Machine/Assembler.lean ====
section
/-! DEFINITION. The assembler syntax of R99 as lines already split into their parts, the names of buttons and axes (R212, R229,
R242, R277), and the operation each line spells. The step does not use it (log 26). -/

namespace Sys2Proof

/-- The register names of the assembler (R99). -/
inductive AsmReg where
  | data
  | stat
  | mode
  | ctrl
  | baud
  | modectrl
  deriving DecidableEq, Repr

/-- The names of the twist controller's button table, in index order (R212). -/
inductive TwistButton where
  | up
  | down
  | left
  | right
  | start
  | a
  | b
  | r
  deriving DecidableEq, Repr

/-- The names of the light gun's button table, in index order (R242). -/
inductive GunButton where
  | trigger
  | a
  | b
  | shootOffscreen
  deriving DecidableEq, Repr

/-- The names of the twist controller's axes, in index order (R229). -/
inductive TwistAxis where
  | steer
  | i
  | ii
  | l
  deriving DecidableEq, Repr

/-- A button operand: an index, or a name of a variant's table (R277). -/
inductive AsmButton where
  | index (k : Nat)
  | twist (name : TwistButton)
  | gun (name : GunButton)
  deriving DecidableEq, Repr

/-- An axis operand: an index or a name (R278). -/
inductive AsmAxis where
  | index (k : Nat)
  | twist (name : TwistAxis)
  deriving DecidableEq, Repr

/-- A line of assembler text, split into its parts (R99, R100). -/
inductive AsmLine where
  /-- a line starting with `;` -/
  | comment
  /-- `RD.<REG>.<w>`, or without the width suffix -/
  | read (r : AsmReg) (w : Option Width)
  /-- `WR.<REG>.<w> <value>`, or without the width suffix -/
  | write (r : AsmReg) (w : Option Width) (v : Word)
  /-- `RD.<w> <off>` -/
  | rawRead (w : Width) (off : BitVec 4)
  /-- `WR.<w> <off>, <value>` -/
  | rawWrite (w : Width) (off : BitVec 4) (v : Word)
  /-- `SET.BUTTON i, b, pressed` -/
  | button (i : Slot) (b : AsmButton) (pressed : Bool)
  /-- `SET.AXIS i, a, x` -/
  | axis (i : Slot) (a : AsmAxis) (x : RealNum)
  /-- any other event, host operation or pseudo-instruction, spelled by its mnemonic and operands -/
  | op (i : Instr)
  deriving DecidableEq, Repr

/-- The window offset a register name stands for (R93). -/
def asmOffset : AsmReg → BitVec 4
  | .data => 0x0#4
  | .stat => 0x4#4
  | .mode => 0x8#4
  | .modectrl => 0x8#4
  | .ctrl => 0xA#4
  | .baud => 0xE#4

/-- The width suffix added where a line has none (R99); MODECTRL is the 32-bit access (log 26). -/
def asmWidth (r : AsmReg) (w : Option Width) : Width :=
  match w, r with
  | some w, _ => w
  | none, .data => .w8
  | none, .stat => .w32
  | none, .modectrl => .w32
  | none, .mode => .w16
  | none, .ctrl => .w16
  | none, .baud => .w16

/-- The register of the decode table that a name means (R93, R99). -/
def asmBusReg : AsmReg → BusReg
  | .data => .data
  | .stat => .stat
  | .mode => .mode
  | .modectrl => .modectrl
  | .ctrl => .ctrl
  | .baud => .baud

/-- Whether a register has a named row at a width; an undefined access has no named spelling (R99). -/
def asmNamed (r : AsmReg) (w : Width) : Bool :=
  busReg w (asmOffset r) == some (asmBusReg r)

/-- The index of a button operand (R212, R242, R277). -/
def asmButtonIndex : AsmButton → Nat
  | .index k => k
  | .twist .up => 0
  | .twist .down => 1
  | .twist .left => 2
  | .twist .right => 3
  | .twist .start => 4
  | .twist .a => 5
  | .twist .b => 6
  | .twist .r => 7
  | .gun .trigger => 0
  | .gun .a => 1
  | .gun .b => 2
  | .gun .shootOffscreen => 3

/-- The index of an axis operand (R229). -/
def asmAxisIndex : AsmAxis → Nat
  | .index k => k
  | .twist .steer => 0
  | .twist .i => 1
  | .twist .ii => 2
  | .twist .l => 3

/-- The operations a line spells: none for a comment; `none` for a name with a width it has no row at (R99). -/
def assemble : AsmLine → Option (List Instr)
  | .comment => some []
  | .read r w => if asmNamed r (asmWidth r w) then some [rawRead (asmWidth r w) (asmOffset r)] else none
  | .write r w v => if asmNamed r (asmWidth r w) then some [rawWrite (asmWidth r w) (asmOffset r) v] else none
  | .rawRead w off => some [rawRead w off]
  | .rawWrite w off v => some [rawWrite w off v]
  | .button i b pressed => some [.setButton i (asmButtonIndex b) pressed]
  | .axis i a x => some [.setAxis i (asmAxisIndex a) x]
  | .op i => some [i]

end Sys2Proof
end

