-- ==== Sys2Proof/WellFormed.lean ====
section
/-! DEFINITION. Which operations are well formed: the checks their types do not make. -/

namespace Sys2Proof

/-- The bits of STAT that no field uses; they always read 0 (R36). -/
def statReserved : Word := ~~~0x00000287#32

/-- A recorded block that R51 and R36 allow: the event is active exactly when a transfer is, it is not overdue, and the
reserved STAT bits are 0. -/
def Image.consistent (img : Image) : Bool :=
  (img.evActive == (img.busState != .idle)) && (!img.evActive || 0 < img.evRemaining)
    && img.stat &&& statReserved == 0#32

/-- A snapshot stream whose intact contents are consistent. -/
def SnapStream.consistent : SnapStream → Bool
  | .intact _ img => img.consistent
  | .broken => true

/-- The well-formed operations: an undefined access names no register (R93), a mismatch row excludes the byte that matches
(R97), and a snapshot to restore is one a block can have. Every other operand is unconstrained. -/
def Instr.wellFormed : Instr → Bool
  | .rdUndef w off => busReg w off == none
  | .wrUndef w off _ => busReg w off == none
  | .twIdleMiss _ b => b != 0x01#8
  | .twReadyMiss _ b => b != 0x42#8
  | .gunIdleMiss _ b => b != 0x01#8
  | .gunReadyMiss _ b => b != 0x42#8
  | .restore st => st.consistent
  | .rdData8 | .wrData8 _ | .rdData16 | .wrData16 _ | .rdData32 | .wrData32 _ => true
  | .rdStat8 | .wrStat8 _ | .rdStat16 | .wrStat16 _ | .rdStat32 | .wrStat32 _ => true
  | .rdMode8 | .wrMode8 _ | .rdMode16 | .wrMode16 _ | .rdModectrl | .wrModectrl _ => true
  | .rdCtrl8 | .wrCtrl8 _ | .rdCtrl16 | .wrCtrl16 _ => true
  | .rdBaud8 | .wrBaud8 _ | .rdBaud16 | .wrBaud16 _ => true
  | .evtFire | .evtXfer | .evtAck => true
  | .advance _ | .attachCtrl _ _ | .detachCtrl _ | .attachCard _ _ | .detachCard _ | .takeCard _ => true
  | .setTap _ _ | .setButton _ _ _ | .setAxis _ _ _ | .setPointer _ _ | .snapshot | .sysreset => true
  | .twIdleSel _ | .twReadyClass _ | .twIdmsb _ _ | .twBtnlsb _ _ | .twBtnmsb _ _ => true
  | .twSteer _ _ | .twAxi _ _ | .twAxii _ _ | .twAxl _ _ => true
  | .gunIdleSel _ | .gunReadyClass _ | .gunIdmsb _ _ | .gunBtnlsb _ _ | .gunBtnmsb _ _ => true
  | .gunXlsb _ _ | .gunXmsb _ _ | .gunYlsb _ _ | .gunYmsb _ _ => true
  | .padTransfer _ _ | .cardTransfer _ _ | .tapTransfer _ _ => true
  | .select _ | .selectq _ | .ackclr _ | .deselect | .sreset | .send _ | .wait _ => true

/-- The pseudo-instructions of R100: other names of core operations, whose words decode to those. -/
def Instr.isPseudo : Instr → Bool
  | .select _ | .selectq _ | .ackclr _ | .deselect | .sreset | .send _ | .wait _ => true
  | .rdData8 | .wrData8 _ | .rdData16 | .wrData16 _ | .rdData32 | .wrData32 _ => false
  | .rdStat8 | .wrStat8 _ | .rdStat16 | .wrStat16 _ | .rdStat32 | .wrStat32 _ => false
  | .rdMode8 | .wrMode8 _ | .rdMode16 | .wrMode16 _ | .rdModectrl | .wrModectrl _ => false
  | .rdCtrl8 | .wrCtrl8 _ | .rdCtrl16 | .wrCtrl16 _ => false
  | .rdBaud8 | .wrBaud8 _ | .rdBaud16 | .wrBaud16 _ | .rdUndef _ _ | .wrUndef _ _ _ => false
  | .evtFire | .evtXfer | .evtAck => false
  | .advance _ | .attachCtrl _ _ | .detachCtrl _ | .attachCard _ _ | .detachCard _ | .takeCard _ => false
  | .setTap _ _ | .setButton _ _ _ | .setAxis _ _ _ | .setPointer _ _ | .snapshot | .restore _ | .sysreset => false
  | .twIdleSel _ | .twIdleMiss _ _ | .twReadyClass _ | .twReadyMiss _ _ | .twIdmsb _ _ | .twBtnlsb _ _ => false
  | .twBtnmsb _ _ | .twSteer _ _ | .twAxi _ _ | .twAxii _ _ | .twAxl _ _ => false
  | .gunIdleSel _ | .gunIdleMiss _ _ | .gunReadyClass _ | .gunReadyMiss _ _ | .gunIdmsb _ _ | .gunBtnlsb _ _ => false
  | .gunBtnmsb _ _ | .gunXlsb _ _ | .gunXmsb _ _ | .gunYlsb _ _ | .gunYmsb _ _ => false
  | .padTransfer _ _ | .cardTransfer _ _ | .tapTransfer _ _ => false

end Sys2Proof
end

