-- ==== Sys2Proof/Safety.lean ====
section
/-! DEFINITION. What a good state is, in the terms the statements use: the invariants of 10_state.md, the runs no claim is made of
(R285), packets, and the notions of a read value and of an interrupt event. -/

namespace Sys2Proof.Machine

/-- The event is active exactly when a transfer is (R51). -/
def EventTied (s : State) : Prop :=
  s.ev.active = true ↔ s.busState ≠ .idle

/-- STAT bits 0 to 2 equal the recompute formulas (R35, R52). -/
def StatusFresh (s : State) : Prop :=
  s.stat.getLsbD 0 = !s.transmitFull ∧ s.stat.getLsbD 1 = s.receiveFull ∧
    s.stat.getLsbD 2 = (!s.transmitFull && s.busState != .transmitting)

/-- STAT bits 3 to 6, 8 and 10 to 31 are 0 (R36). -/
def ReservedClear (s : State) : Prop :=
  ∀ k : Nat, k ≠ 0 → k ≠ 1 → k ≠ 2 → k ≠ 7 → k ≠ 9 → s.stat.getLsbD k = false

/-- An active event lies ahead of `now`. -/
def EventAhead (s : State) : Prop :=
  s.ev.active = true → s.now < s.ev.deadline

/-- Every operation the agents still have to perform is well formed, where it decodes at all. -/
def PendingWellFormed (s : State) : Prop :=
  ∀ op ∈ s.pending, ∀ i : Instr, decodeOp op = .ok i → i.wellFormed = true

/-- Every snapshot the agents have still to restore is of a version that holds both of the fields `f` and `g`, or neither. -/
def PendingTogether (f g : SnapField) (s : State) : Prop :=
  ∀ op ∈ s.pending, ∀ (ver : Nat) (img : Image), decodeOp op = .ok (.restore (.intact ver img)) →
    Config.versionHas ver f = Config.versionHas ver g

/-- No snapshot still to restore splits `busState` from `ev.active`: such a version would leave one without the other (log 18). -/
def PendingTied (s : State) : Prop := PendingTogether .busState .evActive s

/-- No snapshot still to restore splits the event's two fields: such a version would leave an active event with another event's
deadline (log 18). -/
def PendingTimed (s : State) : Prop := PendingTogether .evActive .evRemaining s

/-- `m` is the pressed mask `given` with the bits that no button is assigned to cleared (R212, R242, log 27). -/
def KeepsAssigned (bits : List (Fin 16)) (given m : BitVec 16) : Prop :=
  ∀ k : Nat, m.getLsbD k = (decide (∃ j ∈ bits, j.val = k) && given.getLsbD k)

/-- The bits of a controller's pressed mask that its table assigns to no button are 0 (R212, R242). -/
def UnassignedClearOf (p : Params) : Controller → Prop
  | .pad _ => True
  | .twist d => ∀ k : Nat, (∀ j ∈ p.twistButtonBits.val, j.val ≠ k) → d.inputs.pressed.getLsbD k = false
  | .gun d => ∀ k : Nat, (∀ j ∈ p.gunButtonBits.toList, j.val ≠ k) → d.inputs.pressed.getLsbD k = false

/-- In every slot, the bits of the pressed mask that are assigned to no button are 0 (R212, R242). -/
def UnassignedClear (s : State) : Prop :=
  ∀ (i : Slot) (c : Controller), s.ctrlSlot[i] = some c → UnassignedClearOf s.params c

/-- What a restore of a snapshot of version `ver` leaves in a field: the recorded value where the version holds the field, else
the live one (R286). -/
def restoredValue {α : Type} (ver : Nat) (f : SnapField) (recorded live : α) : α :=
  if Config.versionHas ver f = true then recorded else live

/-- What that restore leaves in a value whose every bit `k` is a field `f k` of its own (R286, log 18). -/
def RestoredBits {n : Nat} (ver : Nat) (f : Fin n → SnapField) (recorded live restored : BitVec n) : Prop :=
  ∀ k : Fin n, restored.getLsbD k = restoredValue ver (f k) (recorded.getLsbD k) (live.getLsbD k)

/-- The interrupt raises of an output list (R303, R305). -/
def raises (l : List OutEvent) : List OutEvent :=
  l.filter fun e => match e with | .irq _ => true | .read _ _ => false

/-- The low `n` bits of a read value `v` are `f`, and the others 0. -/
def ReadsBits (v : Word) (n : Nat) (f : Nat → Bool) : Prop :=
  ∀ k : Nat, v.getLsbD k = (decide (k < n) && f k)

/-- The place and transfer state of a controller as the byte it receives is decoded (R97). -/
def contextOf (i : Slot) : Controller → DevCtx
  | .pad _ => .pad i
  | .twist d => .twist i d.ts
  | .gun d => .gun i d.gs

/-- The variant of a controller, the discriminator tag of R182: 0 pad, 1 twist controller, 2 light gun. -/
def variantOf : Controller → Nat
  | .pad _ => 0
  | .twist _ => 1
  | .gun _ => 2

/-- The replies of a device to a list of bytes, and the state it is left in (R184). -/
def packet {σ : Type} (transfer : σ → Byte → σ × Reply) : σ → List Byte → σ × List Reply
  | d, [] => (d, [])
  | d, b :: bs => ((packet transfer (transfer d b).1 bs).1, (transfer d b).2 :: (packet transfer (transfer d b).1 bs).2)

/-! ## The parts of a transfer, as relations between states -/

/-- The bus preconditions of a transfer start (R140). -/
def StartReady (s : State) : Prop :=
  s.transmitFull = true ∧ s.ctrl.getLsbD 1 = true ∧ s.ctrl.getLsbD 0 = true ∧
    (s.params.startRequiresRxEmpty = true → s.receiveFull = false)

/-- A DATA or STAT read of this state does not run the transfer tick early (R152). -/
def NotForced (s : State) : Prop :=
  s.busState ≠ .transmitting ∨ (s.params.invokeEarly = .onlyIfDue ∧ s.now < s.ev.deadline)

/-- A transfer tick is due in this state (R141). -/
def TickDue (s : State) : Prop :=
  s.busState = .transmitting ∧ s.ev.active = true ∧ s.ev.deadline ≤ s.now

/-- An acknowledge tick is due in this state (R141). -/
def AckDue (s : State) : Prop :=
  s.busState = .waitingForAck ∧ s.ev.active = true ∧ s.ev.deadline ≤ s.now

/-- `new` is the STAT value `old` with its derived bits recomputed (R35, R154). -/
def Recomputed (old new : Word) (transmitFull receiveFull : Bool) (bus : BusState) : Prop :=
  ∀ k : Nat, new.getLsbD k =
    if k = 0 then !transmitFull else if k = 1 then receiveFull
    else if k = 2 then (!transmitFull && bus != .transmitting) else old.getLsbD k

/-- `t` is `s` with a transfer of its transmit latch begun (R142). -/
def Begun (s t : State) : Prop :=
  ∃ c st d, (∀ k : Nat, c.getLsbD k = (s.ctrl.getLsbD k || decide (k = 2))) ∧
    Recomputed s.stat st false s.receiveFull .transmitting ∧
    t = { s with
      ctrl := c
      stat := st
      inFlight := s.transmitBuffer
      transmitFull := false
      busState := .transmitting
      ev := { active := true, deadline := s.now + Config.transferTicks s.mode s.baud }
      draws := d }

/-- `t` is `s` with its transfer ended (R153); the deadline of the event, now inactive, is not claimed (log 4). -/
def Ended (s t : State) : Prop :=
  ∃ st dl, Recomputed s.stat st s.transmitFull s.receiveFull .idle ∧
    t = { s with busState := .idle, ev := { active := false, deadline := dl }, stat := st }

/-- `t` is `s` with the answer `r` latched: on an ack the acknowledge tick is `ticks` ahead, on a non-ack the lock is released
and the transfer ended (R147, R148). -/
def Latched (r : Reply) (ticks : Nat) (s t : State) : Prop :=
  ∃ st d dl,
    (r.ack = true ∧ Recomputed s.stat st s.transmitFull true .waitingForAck ∧
      t = { s with
        receiveBuffer := r.byte
        receiveFull := true
        busState := .waitingForAck
        ev := { active := true, deadline := s.now + ticks }
        stat := st
        draws := d }) ∨
    (r.ack = false ∧ Recomputed s.stat st s.transmitFull true .idle ∧
      t = { s with
        receiveBuffer := r.byte
        receiveFull := true
        activeDevice := .none
        busState := .idle
        ev := { active := false, deadline := dl }
        stat := st })

/-- `p` is the selected physical port and `k` the slot its controller and card are looked up in (R143). -/
def Looks (s : State) (p : Port) (k : Slot) : Prop :=
  p.val = (s.ctrl.getLsbD 13).toNat ∧
    ((s.tap[p] = none ∧ k.val = p.val) ∨ (s.tap[p] ≠ none ∧ k = Config.relayIndex p))

/-- Every device's transfer state reset, its inputs and contents kept (R160, R185, R189). -/
def withDevicesReset (s : State) : State :=
  { s with
    ctrlSlot := s.ctrlSlot.map (Option.map resetController)
    cardSlot := s.cardSlot.map (Option.map resetCard)
    tap := s.tap.map (Option.map resetTap) }

/-- `c` is what a CTRL write of value `v` by the operation `i` stores: `zext_16(v[w-1:0])` (R78, R118). -/
def CtrlWrite (i : Instr) (v : Word) (c : BitVec 16) : Prop :=
  (i = .wrCtrl8 v ∧ c = (v.setWidth 8).setWidth 16) ∨ (i = .wrCtrl16 v ∧ c = v.setWidth 16)

/-- `s` after a CTRL write stored `c` and step (b) cleared `INTR` where `ACK` is set (R118). -/
def CtrlStored (c : BitVec 16) (s t : State) : Prop :=
  ∃ st, (∀ k : Nat, st.getLsbD k = if k = 9 ∧ c.getLsbD 4 = true then false else s.stat.getLsbD k) ∧
    t = { s with ctrl := c, stat := st }

/-- `s` with the twist controller `d` in slot `i` and its reply handed back. -/
def withTwist (i : Slot) (d : Twist) (byte : Byte) (ack : Bool) (s : State) : State :=
  { s with
    ctrlSlot := s.ctrlSlot.set i (some (.twist d))
    returned := some (.reply { byte := byte, ack := ack }) }

/-- `s` with the light gun `d` in slot `i` and its reply handed back. -/
def withGun (i : Slot) (d : Gun) (byte : Byte) (ack : Bool) (s : State) : State :=
  { s with
    ctrlSlot := s.ctrlSlot.set i (some (.gun d))
    returned := some (.reply { byte := byte, ack := ack }) }

/-- `s` after a soft or system reset: the values of R54, the devices' transfer states reset, everything else kept (R160, R331). -/
def AfterReset (s t : State) : Prop :=
  ∃ dl, t = { withDevicesReset s with
    ctrl := 0x0000#16
    stat := 0x00000005#32
    mode := 0x0000#16
    baud := 0x0000#16
    transmitBuffer := 0x00#8
    transmitFull := false
    receiveBuffer := 0x00#8
    receiveFull := false
    inFlight := 0x00#8
    busState := .idle
    activeDevice := .none
    ev := { active := false, deadline := dl } }

/-- The devices attached in `v` are of the variants attached in `s`, and the cards hold the same contents (R283, R284). -/
def SameDevices (s v : State) : Prop :=
  (∀ k : Slot, s.ctrlSlot[k].map variantOf = v.ctrlSlot[k].map variantOf) ∧
    (∀ k : Slot, s.cardSlot[k].map (fun c => Config.cardContentKey c.contents) =
      v.cardSlot[k].map (fun c => Config.cardContentKey c.contents)) ∧
    ∀ p : Port, s.tap[p].isSome = v.tap[p].isSome

end Sys2Proof.Machine
end

