-- ==== Sys2Proof/Certificates/Slice0/Obligations.lean ====
section
/-! DEFINITION. The statements about the machine. -/

open Sys2Proof Sys2Proof.Machine

/-- For every well-formed operation that is no pseudo-instruction, with every operand at every value, the decoder reads the
operation back from its encoding: the operation word with the operand beside it, or the device byte in its context.
(30_encoding.md sections 1 to 4). -/
def Obligations.DecodeEncodeOperation : Prop :=
  ∀ i : Instr, i.wellFormed = true → i.isPseudo = false → decode (encode i) = .ok i

/-- If an operation word with its operand decodes to an operation, then encoding that operation gives the same word and operand:
every legal word has one meaning and no bit of it is dropped. (30_encoding.md sections 1 to 3). -/
def Obligations.EncodeDecodeOperationWord : Prop :=
  ∀ (op : Op) (i : Instr), decodeOp op = .ok i → encode i = .op op

/-- A BUS word with W = 11 or Z not zero, an EVT word other than the three, a HOST word with an unknown HOP or an ARG out of
range is refused by the decoder by name whatever the operand; a BUS word with a legal W and Z = 0 decodes at every offset;
the three EVT words and every HOST word with its ARG in range decode to their operations, with the operand of the Operands
column beside them; a step whose next operation the decoder refuses, with no due event before it, refuses by that name. The
model's choice in this: the decoder refuses a word with an operand of another kind too, by a name that the step repeats (log
20), and the operations presented stand in a list that a due event goes before (log 5). (30_encoding.md sections 1 to 3). -/
def Obligations.IllegalWordsRefused : Prop :=
  (∀ (w : BitVec 16) (o : Operand), w.toNat < 0x8000 → (w.extractLsb' 12 2 = 3#2 ∨ w.extractLsb' 4 8 ≠ 0#8) →
      decodeOp ⟨w, o⟩ = .error .reservedWidth ∨ decodeOp ⟨w, o⟩ = .error .nonzeroZ) ∧
    (∀ (w : BitVec 16) (o : Operand), 0x8003 ≤ w.toNat → w.toNat < 0xC000 →
      decodeOp ⟨w, o⟩ = .error .illegalEvent) ∧
    (∀ (w : BitVec 16) (o : Operand), 0xCD00 ≤ w.toNat → decodeOp ⟨w, o⟩ = .error .illegalHop) ∧
    (∀ (w : BitVec 16) (o : Operand), 0xC100 ≤ w.toNat → w.toNat < 0xCA00 → (w.extractLsb' 8 8).toNat ≠ 0xC6 →
      8 ≤ (w.extractLsb' 0 8).toNat → decodeOp ⟨w, o⟩ = .error .illegalArg) ∧
    (∀ (w : BitVec 16) (o : Operand), (w.extractLsb' 8 8).toNat = 0xC6 → 2 ≤ (w.extractLsb' 0 8).toNat →
      decodeOp ⟨w, o⟩ = .error .illegalArg) ∧
    (∀ (w : BitVec 16) (o : Operand), (w.extractLsb' 8 8).toNat ∈ [0xC0, 0xCA, 0xCB, 0xCC] →
      (w.extractLsb' 0 8).toNat ≠ 0 → decodeOp ⟨w, o⟩ = .error .illegalArg) ∧
    (∀ (w : BitVec 16) (v : Word), w.toNat < 0x8000 → w.extractLsb' 12 2 ≠ 3#2 → w.extractLsb' 4 8 = 0#8 →
      ∃ i, decodeOp ⟨w, if w.toNat < 0x4000 then .none else .value v⟩ = .ok i) ∧
    (∀ x ∈ [(0x8000#16, Instr.evtFire), (0x8001#16, .evtXfer), (0x8002#16, .evtAck), (0xCA00#16, .snapshot),
        (0xCC00#16, .sysreset)], decodeOp ⟨x.1, .none⟩ = .ok x.2) ∧
    (∀ (n : Nat) (st : SnapStream), decodeOp ⟨0xC000#16, .ticks n⟩ = .ok (.advance n) ∧
      decodeOp ⟨0xCB00#16, .stream st⟩ = .ok (.restore st)) ∧
    (∀ (p : Port) (q : Option Tap), decodeOp ⟨BitVec.ofNat 16 (0xC600 + p.val), .tap q⟩ = .ok (.setTap p q)) ∧
    (∀ i : Slot, ∀ x ∈ [(0xC200, Instr.detachCtrl i), (0xC400, .detachCard i), (0xC500, .takeCard i)],
      decodeOp ⟨BitVec.ofNat 16 (x.1 + i.val), .none⟩ = .ok x.2) ∧
    (∀ (i : Slot) (c : CtrlInit) (m : Card) (b a : Nat) (v : Bool) (x : RealNum) (q : Option Pointer),
      decodeOp ⟨BitVec.ofNat 16 (0xC100 + i.val), .ctrlInit c⟩ = .ok (.attachCtrl i c) ∧
        decodeOp ⟨BitVec.ofNat 16 (0xC300 + i.val), .card m⟩ = .ok (.attachCard i m) ∧
        decodeOp ⟨BitVec.ofNat 16 (0xC700 + i.val), .button b v⟩ = .ok (.setButton i b v) ∧
        decodeOp ⟨BitVec.ofNat 16 (0xC800 + i.val), .axis a x⟩ = .ok (.setAxis i a x) ∧
        decodeOp ⟨BitVec.ofNat 16 (0xC900 + i.val), .pointer q⟩ = .ok (.setPointer i q)) ∧
    ∀ (s : State) (op : Op) (rest : List Op) (e : DecodeError), s.pending = op :: rest → schedulerFirst s = false →
      decodeOp op = .error e → step s = .refused (.illegalWord e)

/-- The 26 named read and write words decode to their operations, a write with its 32-bit operand, and every other BUS word with
a legal width and Z = 0 decodes to RD.UNDEF or WR.UNDEF with its width and offset: misaligned and unnamed combinations among
them. (R93). -/
def Obligations.RegisterDecodeTable : Prop :=
  (∀ x ∈ [(0x0000#16, Instr.rdData8), (0x1000#16, .rdData16), (0x2000#16, .rdData32), (0x0004#16, .rdStat8),
        (0x1004#16, .rdStat16), (0x2004#16, .rdStat32), (0x0008#16, .rdMode8), (0x1008#16, .rdMode16),
        (0x2008#16, .rdModectrl), (0x000A#16, .rdCtrl8), (0x100A#16, .rdCtrl16), (0x000E#16, .rdBaud8),
        (0x100E#16, .rdBaud16)],
      decodeOp ⟨x.1, .none⟩ = .ok x.2) ∧
    (∀ v : Word, ∀ x ∈ [(0x4000#16, Instr.wrData8 v), (0x5000#16, .wrData16 v), (0x6000#16, .wrData32 v),
        (0x4004#16, .wrStat8 v), (0x5004#16, .wrStat16 v), (0x6004#16, .wrStat32 v), (0x4008#16, .wrMode8 v),
        (0x5008#16, .wrMode16 v), (0x6008#16, .wrModectrl v), (0x400A#16, .wrCtrl8 v), (0x500A#16, .wrCtrl16 v),
        (0x400E#16, .wrBaud8 v), (0x500E#16, .wrBaud16 v)],
      decodeOp ⟨x.1, .value v⟩ = .ok x.2) ∧
    ∀ (k : Nat) (w : Width) (off : BitVec 4) (v : Word), (k, w) ∈ [(0x0000, Width.w8), (0x1000, .w16), (0x2000, .w32)] →
      k + off.toNat ∉ [0x0000, 0x1000, 0x2000, 0x0004, 0x1004, 0x2004, 0x0008, 0x1008, 0x2008, 0x000A, 0x100A, 0x000E,
        0x100E] →
      decodeOp ⟨BitVec.ofNat 16 (k + off.toNat), .none⟩ = .ok (.rdUndef w off) ∧
        decodeOp ⟨BitVec.ofNat 16 (0x4000 + k + off.toNat), .value v⟩ = .ok (.wrUndef w off v)

/-- One word of each format, written out by hand, and two device bytes decode to the operations they stand for.
(95_test_vectors.md part L2, Encoding, 30_encoding.md sections 1 to 4). -/
def Obligations.SampleWordsDecode : Prop :=
  decodeOp ⟨0x2004#16, .none⟩ = .ok .rdStat32 ∧ decodeOp ⟨0x500A#16, .value 0x1003#32⟩ = .ok (.wrCtrl16 0x1003#32) ∧
    decodeOp ⟨0x1009#16, .none⟩ = .ok (.rdUndef .w16 9#4) ∧ decodeOp ⟨0x8002#16, .none⟩ = .ok .evtAck ∧
    decodeOp ⟨0xC000#16, .ticks 30⟩ = .ok (.advance 30) ∧ decodeOp ⟨0xC702#16, .button 4 true⟩ = .ok (.setButton 2 4 true) ∧
    decodeDev (.twist 0 .idle) 0x01#8 = .twIdleSel 0 ∧ decodeDev (.gun 1 .ready) 0x43#8 = .gunReadyMiss 1 0x43#8

/-- SELECT, SELECTQ, ACKCLR, DESELECT, SRESET, SEND and WAIT encode as the register write or ADVANCE they expand to, with the
constants of the table, and each completes in the state its expansion gives. (30_encoding.md section 5). -/
def Obligations.PseudoExpansion : Prop :=
  ∀ (s : State) (x : Instr × Instr),
    x ∈ [(Instr.select 0, Instr.wrCtrl16 0x1003#32), (.select 1, .wrCtrl16 0x3003#32), (.selectq 0, .wrCtrl16 0x0003#32),
        (.selectq 1, .wrCtrl16 0x2003#32), (.deselect, .wrCtrl16 0x0000#32), (.sreset, .wrCtrl16 0x0040#32)] ∨
      (∃ c : BitVec 16, x = (.ackclr c, .wrCtrl16 ((c ||| 0x0010#16).setWidth 32))) ∨
      (∃ b : Byte, x = (.send b, .wrData8 (b.setWidth 32))) ∨ (∃ n : Nat, x = (.wait n, .advance n)) →
    encode x.1 = encode x.2 ∧ ∃ t, exec x.1 s = .next t ∧ exec x.2 s = .next t

/-- With MAX_LATENESS at 0, an active event whose deadline is at or before now fires before the next operation of any other
agent; with no event due, the next operation is decoded and its meaning runs on the state with that operation taken off the
list; with no event due and nothing presented, nothing happens. The list of presented operations is the model's (log 5).
(00_scope.md section 5, 60_exceptions.md section 3). -/
def Obligations.StepRunsDecodedOperation : Prop :=
  (∀ (s : State) (op : Op) (rest : List Op), s.params.maxLateness = 0 → s.ev.active = true → s.ev.deadline ≤ s.now →
      s.pending = op :: rest → op.isEvent = false → step s = exec .evtFire s ∧ step s = .next (fireEvent s)) ∧
    (∀ (s : State) (op : Op) (rest : List Op) (i : Instr), schedulerFirst s = false → s.pending = op :: rest →
      decodeOp op = .ok i → step s = exec i (s.setPending rest)) ∧
    (∀ s : State, schedulerFirst s = false → s.pending = [] → step s = .next s) ∧
    ∀ s : State, (s.ev.active = true → s.now < s.ev.deadline) → schedulerFirst s = false

/-- In a state in which no event is due, presenting a 16-bit word that decodes to an operation other than an event word makes
the very next step that operation's meaning on the state as it was (the presentation is the model's, log 6). (30_encoding.md
section 1). -/
def Obligations.TableWordIsFetched : Prop :=
  ∀ (s : State) (w : Nat) (i : Instr), eventDue s = false → decodeTableWord 16 w = some i →
    i ∉ [Instr.evtFire, .evtXfer, .evtAck] → step (s.withFetchWord 16 w) = exec i s

/-- For RD.DATA at widths 8, 16 and 32, where no transfer tick is forced: the value handed to the CPU holds the received byte in
every byte lane of the access (0xFF where the latch is empty and RX_EMPTY_READ is ALL_ONES), receiveFull is cleared, the
derived STAT bits are recomputed, and nothing else changes. (40_register_access.md section DATA). -/
def Obligations.DataReadAnswers : Prop :=
  ∀ s : State, NotForced s → ∀ x ∈ [(Instr.rdData8, Width.w8), (.rdData16, .w16), (.rdData32, .w32)],
    ∃ v st,
      ReadsBits v x.2.bits (fun k =>
        (if s.params.rxEmptyRead = .allOnes ∧ s.receiveFull = false then 0xFF#8 else s.receiveBuffer).getLsbD (k % 8)) ∧
      Recomputed s.stat st s.transmitFull false s.busState ∧
      exec x.1 s = .next { s with receiveFull := false, stat := st, outputs := s.outputs ++ [.read x.2 v] }

/-- For RD.STAT at widths 8, 16 and 32, where no transfer tick is forced: the value handed to the CPU is STAT[w-1:0] as it stood
before the clear, bit 7 (ACKIN) of STAT is cleared, and nothing else changes; INTR is not consumed. (40_register_access.md
section STAT). -/
def Obligations.StatReadAnswers : Prop :=
  ∀ s : State, NotForced s → ∀ x ∈ [(Instr.rdStat8, Width.w8), (.rdStat16, .w16), (.rdStat32, .w32)],
    ∃ v st,
      ReadsBits v x.2.bits (fun k => s.stat.getLsbD k) ∧
      (∀ k : Nat, st.getLsbD k = if k = 7 then false else s.stat.getLsbD k) ∧
      exec x.1 s = .next { s with stat := st, outputs := s.outputs ++ [.read x.2 v] }

/-- While a transfer tick is pending, and under the policy ALWAYS or with the deadline reached, each of the six DATA and STAT
reads does what it does after the transfer tick; the tick leaves a state in which the read forces nothing more (the
acknowledge tick is never forced). (41_transfer_engine.md section 5, 40_register_access.md sections DATA and STAT). -/
def Obligations.EarlyTickOnRead : Prop :=
  ∀ s : State, s.busState = .transmitting → (s.params.invokeEarly = .always ∨ s.ev.deadline ≤ s.now) →
    ∀ i ∈ [Instr.rdData8, .rdData16, .rdData32, .rdStat8, .rdStat16, .rdStat32],
      NotForced (transferTick s) ∧ ∃ t, exec i s = .next t ∧ exec i (transferTick s) = .next t

/-- The words of RD.MODE, RD.CTRL and RD.BAUD at widths 8 and 16 and of RD.MODECTRL decode to them. The first three answer the
register cut to the width; RD.MODECTRL answers MODE in bits 15 to 0 and CTRL in bits 31 to 16. None has a side effect: they
force no transfer tick and change no flag. (R115, R117, R119, R121). -/
def Obligations.ConfigRegisterReads : Prop :=
  ∀ s : State, ∀ x ∈ [(0x0008#16, Instr.rdMode8, Width.w8, fun k : Nat => s.mode.getLsbD k),
      (0x1008#16, .rdMode16, .w16, fun k => s.mode.getLsbD k), (0x000A#16, .rdCtrl8, .w8, fun k => s.ctrl.getLsbD k),
      (0x100A#16, .rdCtrl16, .w16, fun k => s.ctrl.getLsbD k), (0x000E#16, .rdBaud8, .w8, fun k => s.baud.getLsbD k),
      (0x100E#16, .rdBaud16, .w16, fun k => s.baud.getLsbD k),
      (0x2008#16, .rdModectrl, .w32, fun k => if k < 16 then s.mode.getLsbD k else s.ctrl.getLsbD (k - 16))],
    decodeOp ⟨x.1, .none⟩ = .ok x.2.1 ∧
      ∃ v, ReadsBits v x.2.2.1.bits x.2.2.2 ∧
        exec x.2.1 s = .next { s with outputs := s.outputs ++ [.read x.2.2.1 v] }

/-- A read or write at an offset and width that name no register decodes to RD.UNDEF or WR.UNDEF, and a write at 0x4 to WR.STAT.
RD.UNDEF answers all-ones at the access width and changes no state; WR.UNDEF and WR.STAT at widths 8, 16 and 32 change no
state at all, whatever the value. (R114, R123, R124). -/
def Obligations.UndefinedAccessesChangeNothing : Prop :=
  ∀ (s : State) (w : Width) (off : BitVec 4) (v : Word),
    (∃ r, ReadsBits r w.bits (fun _ => true) ∧
      exec (.rdUndef w off) s = .next { s with outputs := s.outputs ++ [.read w r] }) ∧
    (∀ i ∈ [Instr.wrUndef w off v, .wrStat8 v, .wrStat16 v, .wrStat32 v], exec i s = .next s) ∧
    (∀ x ∈ [(0x4004#16, Instr.wrStat8 v), (0x5004#16, .wrStat16 v), (0x6004#16, .wrStat32 v)],
      decodeOp ⟨x.1, .value v⟩ = .ok x.2) ∧
    (off.toNat ∉ [0x0, 0x4, 0x8] → (w ≠ .w32 → off.toNat ∉ [0xA, 0xE]) →
      decodeOp ⟨busWord false w off, .none⟩ = .ok (.rdUndef w off) ∧
        decodeOp ⟨busWord true w off, .value v⟩ = .ok (.wrUndef w off v))

/-- A 16-bit write of MODE or BAUD stores v[15:0]; an 8-bit write stores v[7:0] with bits 15 to 8 cleared; no transfer starts
and nothing else changes. (40_register_access.md sections MODE and BAUD, 20_memory.md section 3). -/
def Obligations.ConfigRegisterWrites : Prop :=
  ∀ (s : State) (v : Word),
    exec (.wrMode8 v) s = .next { s with mode := (v.setWidth 8).setWidth 16 } ∧
      exec (.wrMode16 v) s = .next { s with mode := v.setWidth 16 } ∧
      exec (.wrBaud8 v) s = .next { s with baud := (v.setWidth 8).setWidth 16 } ∧
      exec (.wrBaud16 v) s = .next { s with baud := v.setWidth 16 }

/-- WR.DATA at widths 8, 16 and 32 latches v[7:0]. Where the bus is idle, SELECT and TXEN are set and the receive latch is empty
if START_REQUIRES_RX_EMPTY asks for it, the transfer begins at once: the byte is in flight, the latch emptied, RXEN set and
the transfer tick scheduled TRANSFER_TICKS(MODE, BAUD) ahead. Elsewhere the byte is only latched. Nothing else changes.
(40_register_access.md section DATA, 41_transfer_engine.md section 2). -/
def Obligations.DataWriteLatchesOrStarts : Prop :=
  ∀ (s : State) (v : Word), ∀ i ∈ [Instr.wrData8 v, .wrData16 v, .wrData32 v],
    (s.busState = .idle ∧ StartReady { s with transmitFull := true } →
      ∃ t, Begun { s with transmitBuffer := v.setWidth 8, transmitFull := true } t ∧ exec i s = .next t) ∧
    (¬(s.busState = .idle ∧ StartReady { s with transmitFull := true }) →
      ∃ st, Recomputed s.stat st true s.receiveFull s.busState ∧
        exec i s = .next { s with transmitBuffer := v.setWidth 8, transmitFull := true, stat := st })

/-- WR.CTRL at widths 8 and 16 with bit 6 set in the stored value, whatever its other bits, and SYSRESET and SRESET, leave every
register, latch and sequencing element at its reset value (STAT at 0x00000005, the event inactive) and every device's
transfer state reset; input latches, slot contents, the output list and the time stay. (R160, R331). -/
def Obligations.ResetsGiveResetValues : Prop :=
  ∀ (s : State) (v : Word) (c : BitVec 16) (i : Instr),
    ((CtrlWrite i v c ∧ c.getLsbD 6 = true) ∨ i = .sysreset ∨ i = .sreset → ∃ t, AfterReset s t ∧ exec i s = .next t) ∧
      decodeOp ⟨0xCC00#16, .none⟩ = .ok .sysreset

/-- A CTRL write (8 or 16 bits) whose stored value has RESET = 0 and SELECT = 0 stores the value, clears INTR where ACK is set,
resets every device's transfer state, clears activeDevice and ends a transfer in flight: no acknowledge, no raise, the
receive latch and a queued byte kept. (40_register_access.md section CTRL, 42_device_framework.md section 3,
41_transfer_engine.md section 5). -/
def Obligations.CtrlWriteDeselects : Prop :=
  ∀ (s : State) (v : Word) (c : BitVec 16) (i : Instr), CtrlWrite i v c → c.getLsbD 6 = false → c.getLsbD 1 = false →
    ∃ b st dl, CtrlStored c s b ∧ Recomputed b.stat st s.transmitFull s.receiveFull .idle ∧
      exec i s = .next { withDevicesReset b with
        activeDevice := .none
        busState := .idle
        ev := if s.busState = .idle then s.ev else { active := false, deadline := dl }
        stat := st }

/-- A CTRL write (8 or 16 bits) whose stored value has RESET = 0, SELECT = 1 and TXEN = 0 stores the value, clears INTR where
ACK is set and ends a transfer in flight; the devices and activeDevice are kept. (40_register_access.md section CTRL,
41_transfer_engine.md section 5). -/
def Obligations.CtrlWriteTransmitOff : Prop :=
  ∀ (s : State) (v : Word) (c : BitVec 16) (i : Instr), CtrlWrite i v c → c.getLsbD 6 = false → c.getLsbD 1 = true →
    c.getLsbD 0 = false →
    ∃ b st dl, CtrlStored c s b ∧ Recomputed b.stat st s.transmitFull s.receiveFull .idle ∧
      exec i s = .next { b with
        busState := .idle
        ev := if s.busState = .idle then s.ev else { active := false, deadline := dl }
        stat := st }

/-- A CTRL write (8 or 16 bits) whose stored value has RESET = 0, SELECT = 1 and TXEN = 1 stores the value and clears INTR where
ACK is set; where the bus is idle and a byte is queued (and the receive latch is empty if that is required) it begins that
byte's transfer, and else it changes nothing more, a transfer in progress included. (40_register_access.md section CTRL,
41_transfer_engine.md sections 1 and 2). -/
def Obligations.CtrlWriteStarts : Prop :=
  ∀ (s : State) (v : Word) (c : BitVec 16) (i : Instr), CtrlWrite i v c → c.getLsbD 6 = false → c.getLsbD 1 = true →
    c.getLsbD 0 = true →
    ∃ b, CtrlStored c s b ∧
      (s.busState = .idle ∧ StartReady b → ∃ t, Begun b t ∧ exec i s = .next t) ∧
      (¬(s.busState = .idle ∧ StartReady b) →
        ∃ st, Recomputed b.stat st s.transmitFull s.receiveFull s.busState ∧ exec i s = .next { b with stat := st })

/-- The word 0x6008 with a 32-bit value decodes to the combined write. It completes in the state that the 16-bit CTRL write of
v[31:16] gives after MODE has been set to v[15:0]. (R120). -/
def Obligations.CombinedWriteIsModeThenCtrl : Prop :=
  ∀ (s : State) (v : Word),
    decodeOp ⟨0x6008#16, .value v⟩ = .ok (.wrModectrl v) ∧
      ∃ t, exec (.wrModectrl v) s = .next t ∧ exec (.wrCtrl16 (v >>> 16)) { s with mode := v.setWidth 16 } = .next t

/-- With an active event whose deadline is reached, EVT.FIRE runs the transfer tick in Transmitting, the acknowledge tick in
WaitingForAck and only deactivates the event in Idle; EVT.XFER and EVT.ACK run their tick in their own bus state. That
EVT.XFER and EVT.ACK in another bus state, and every EVT word while the event is not active or not due, are refused is the
model's reading of 'admitted only' and 'enabled' (log 16). (41_transfer_engine.md section 1, 30_encoding.md section 3). -/
def Obligations.FiringDispatch : Prop :=
  (∀ s : State, s.ev.active = true → s.ev.deadline ≤ s.now →
      (s.busState = .transmitting → exec .evtFire s = .next (transferTick s) ∧ exec .evtXfer s = .next (transferTick s)) ∧
      (s.busState = .waitingForAck → exec .evtFire s = .next (ackTick s) ∧ exec .evtAck s = .next (ackTick s)) ∧
      (s.busState = .idle → ∃ dl, exec .evtFire s = .next { s with ev := { active := false, deadline := dl } })) ∧
    (∀ s : State, s.busState ≠ .transmitting → exec .evtXfer s = .refused .eventNotAdmitted) ∧
    (∀ s : State, s.busState ≠ .waitingForAck → exec .evtAck s = .refused .eventNotAdmitted) ∧
    ∀ s : State, ¬(s.ev.active = true ∧ s.ev.deadline ≤ s.now) →
      exec .evtFire s = .refused .eventNotEnabled ∧
      (s.busState = .transmitting → exec .evtXfer s = .refused .eventNotEnabled) ∧
      (s.busState = .waitingForAck → exec .evtAck s = .refused .eventNotEnabled)

/-- EVT.FIRE and EVT.ACK at a due acknowledge tick set STAT.ACKIN; with ACKINTEN they also set STAT.INTR and append exactly one
raise, without it they do neither; they end the transfer, and where a byte is queued and the start preconditions hold they
begin it at once, keeping activeDevice. Nothing else changes. (41_transfer_engine.md section 4, 60_exceptions.md section 2). -/
def Obligations.AckTickEffect : Prop :=
  ∀ s : State, AckDue s → ∀ i ∈ [Instr.evtFire, .evtAck],
    ∃ st e,
      (∀ k : Nat, st.getLsbD k =
        if k = 7 then true else if k = 9 then (s.stat.getLsbD 9 || s.ctrl.getLsbD 12) else s.stat.getLsbD k) ∧
      Ended { s with
        stat := st
        outputs := s.outputs ++ if s.ctrl.getLsbD 12 = true then [.irq Config.irqLine] else [] } e ∧
      (StartReady s → ∃ t, Begun e t ∧ exec i s = .next t) ∧ (¬StartReady s → exec i s = .next e)

/-- EVT.FIRE and EVT.XFER at a due transfer tick, where no device is locked, none is at the looked-up index and no enabled
multitap is on the port (a multitap that is not enabled may be), or the locked class has no device there now, latch
NO_DEVICE_BYTE, release the lock and end the transfer: no acknowledge tick follows and a queued byte stays queued.
(41_transfer_engine.md section 3, 60_exceptions.md section 1). -/
def Obligations.TickWithoutDevice : Prop :=
  ∀ (s : State) (p : Port) (k : Slot), TickDue s → Looks s p k →
    ((s.activeDevice = .none ∧ tapTakesByte p s = false ∧ s.ctrlSlot[k] = none ∧ s.cardSlot[k] = none) ∨
      (s.activeDevice = .controller ∧ s.ctrlSlot[k] = none) ∨ (s.activeDevice = .memoryCard ∧ s.cardSlot[k] = none) ∨
      (s.activeDevice = .multitap ∧ s.tap[p] = none)) →
    ∀ i ∈ [Instr.evtFire, .evtXfer],
      ∃ t, Latched { byte := s.params.noDeviceByte, ack := false } 0 s t ∧ exec i s = .next t

/-- At a due transfer tick with a controller at the looked-up index that is locked, or with no lock and no enabled multitap on
the port, the byte in flight is decoded in the controller's own context and that row's exchange happens; where it
acknowledges, or the controller is locked, or there is no memory card, its reply is latched, with the controller locked and
the acknowledge tick ACK_TICKS_CTRL ahead on an ack. (41_transfer_engine.md section 3, 30_encoding.md section 4). -/
def Obligations.TickRunsControllerRow : Prop :=
  ∀ (s : State) (p : Port) (k : Slot) (c : Controller), TickDue s → Looks s p k → s.ctrlSlot[k] = some c →
    (s.activeDevice = .controller ∨ (s.activeDevice = .none ∧ tapTakesByte p s = false)) →
    ∃ u r, exec (decodeDev (contextOf k c) s.inFlight) s = .next u ∧ u.returned = some (.reply r) ∧
      (r.ack = true ∨ s.activeDevice = .controller ∨ s.cardSlot[k] = none →
        ∀ i ∈ [Instr.evtFire, .evtXfer],
          ∃ t, Latched r Config.ackTicksCtrl { u with returned := s.returned, activeDevice := .controller } t ∧
            exec i s = .next t)

/-- At a due transfer tick with a memory card at the looked-up index that is locked, or with no lock, no enabled multitap and no
controller there, CARD.TRANSFER of the byte in flight happens and its reply is latched, with the memory card locked and the
acknowledge tick ACK_TICKS_CARD ahead on an ack. (41_transfer_engine.md section 3). -/
def Obligations.TickRunsCardRow : Prop :=
  ∀ (s : State) (p : Port) (k : Slot) (m : Card), TickDue s → Looks s p k → s.cardSlot[k] = some m →
    (s.activeDevice = .memoryCard ∨
      (s.activeDevice = .none ∧ tapTakesByte p s = false ∧ s.ctrlSlot[k] = none)) →
    ∃ u r, exec (.cardTransfer k s.inFlight) s = .next u ∧ u.returned = some (.reply r) ∧
      ∀ i ∈ [Instr.evtFire, .evtXfer],
        ∃ t, Latched r Config.ackTicksCard { u with returned := s.returned, activeDevice := .memoryCard } t ∧
          exec i s = .next t

/-- At a due transfer tick with no lock, no enabled multitap, and a controller and a memory card at the looked-up index, where
the controller's row does not acknowledge, the card is then offered the same byte; its reply is latched, and it is locked
with the acknowledge tick ACK_TICKS_CARD ahead on an ack. (41_transfer_engine.md section 3). -/
def Obligations.TickFallsToCard : Prop :=
  ∀ (s : State) (p : Port) (k : Slot) (c : Controller) (m : Card), TickDue s → Looks s p k → s.activeDevice = .none →
    tapTakesByte p s = false → s.ctrlSlot[k] = some c → s.cardSlot[k] = some m →
    ∃ u r, exec (decodeDev (contextOf k c) s.inFlight) s = .next u ∧ u.returned = some (.reply r) ∧
      (r.ack = false →
        ∃ u' r', exec (.cardTransfer k s.inFlight) u = .next u' ∧ u'.returned = some (.reply r') ∧
          ∀ i ∈ [Instr.evtFire, .evtXfer],
            ∃ t, Latched r' Config.ackTicksCard { u' with returned := s.returned, activeDevice := .memoryCard } t ∧
              exec i s = .next t)

/-- At a due transfer tick with a multitap on the selected port that is locked, or enabled with no lock, TAP.TRANSFER of the
byte in flight happens and its reply is latched; on an ack the multitap is locked, and the acknowledge delay is the card's
exactly where the multitap, as the exchange left it, addresses a memory card. The bus offers no other device the byte.
(41_transfer_engine.md section 3, 42_device_framework.md section 2). -/
def Obligations.TickRunsTapRow : Prop :=
  ∀ (s : State) (p : Port) (tp : Tap), TickDue s → p.val = (s.ctrl.getLsbD 13).toNat → s.tap[p] = some tp →
    (s.activeDevice = .multitap ∨ (s.activeDevice = .none ∧ Config.tapEnabled tp = true)) →
    ∃ u r tp', exec (.tapTransfer p s.inFlight) s = .next u ∧ u.returned = some (.reply r) ∧ u.tap[p] = some tp' ∧
      ∀ i ∈ [Instr.evtFire, .evtXfer],
        ∃ t, Latched r (if Config.tapAddressedIsCard tp' = true then Config.ackTicksCard else Config.ackTicksCtrl)
            { u with returned := s.returned, activeDevice := .multitap } t ∧
          exec i s = .next t

/-- A due transfer tick completes; it leaves ACKIN, INTR, the output list, the time, CTRL, MODE, BAUD and the transmit latch as
they were, and either ends the transfer with the event inactive or waits for an acknowledge tick that lies strictly later:
the acknowledge tick is never part of the transfer tick. (41_transfer_engine.md section 4 and 5, 70_reset_and_hazards.md
section 3). -/
def Obligations.TransferTickNeverAcknowledges : Prop :=
  ∀ s : State, TickDue s →
    ∃ t, exec .evtXfer s = .next t ∧ t.outputs = s.outputs ∧ t.now = s.now ∧ t.ctrl = s.ctrl ∧ t.mode = s.mode ∧
      t.baud = s.baud ∧ t.transmitBuffer = s.transmitBuffer ∧ t.transmitFull = s.transmitFull ∧
      t.stat.getLsbD 7 = s.stat.getLsbD 7 ∧ t.stat.getLsbD 9 = s.stat.getLsbD 9 ∧
      ((t.busState = .idle ∧ t.ev.active = false ∧ t.activeDevice = .none) ∨
        (t.busState = .waitingForAck ∧ t.ev.active = true ∧ s.now < t.ev.deadline))

/-- ADVANCE n and WAIT n, where the event is inactive or its deadline lies after now + n, add n to now and change nothing else.
(45_host_interface.md section 3). -/
def Obligations.AdvanceWithoutEvent : Prop :=
  ∀ (s : State) (n : Nat), (s.ev.active = true → s.now + n < s.ev.deadline) →
    exec (.advance n) s = .next { s with now := s.now + n } ∧ exec (.wait n) s = .next { s with now := s.now + n }

/-- Where the event's deadline lies within the advance, the advance completes as: the time moves to a firing tick no earlier
than the deadline, at most MAX_LATENESS after it and not past the target (so the deadline itself where MAX_LATENESS is 0),
EVT.FIRE runs there, and the rest of the advance follows. (45_host_interface.md section 3). -/
def Obligations.AdvanceStopsAtDeadline : Prop :=
  ∀ (s : State) (n : Nat), s.ev.active = true → s.now ≤ s.ev.deadline → s.ev.deadline ≤ s.now + n →
    ∃ f u t, s.ev.deadline ≤ f ∧ f ≤ s.ev.deadline + s.params.maxLateness ∧ f ≤ s.now + n ∧
      exec .evtFire { s with now := f } = .next u ∧ exec (.advance n) s = .next t ∧
      exec (.advance (s.now + n - f)) u = .next t

/-- From every state, ADVANCE n and WAIT n complete in one step at now + n, and the event is then inactive or lies strictly
ahead, however many ticks and chained transfers fired on the way: the model's bound on the number of firings is never
reached short of the target. (45_host_interface.md section 3). -/
def Obligations.AdvanceReachesTarget : Prop :=
  ∀ (s : State) (n : Nat),
    ∃ t, exec (.advance n) s = .next t ∧ exec (.wait n) s = .next t ∧ t.now = s.now + n ∧
      (t.ev.active = true → t.now < t.ev.deadline)

/-- For a twist controller in a slot: in each of its nine transfer states the row of the byte received completes, hands back the
byte and acknowledge the packet gives (select reply, 0x23, 0x5A, the inverted button bytes low then high, steering, I, II,
L; the mismatch rows the non-ack byte), and changes only the transfer state of that controller. (43_device_twist.md section
2). -/
def Obligations.TwistRows : Prop :=
  ∀ (s : State) (i : Slot) (d : Twist) (b : Byte), s.ctrlSlot[i] = some (.twist d) →
    (d.ts = .idle → exec (.twIdleSel i) s = .next (withTwist i { d with ts := .ready } s.params.selectReplyByte true s)) ∧
    (d.ts = .idle → b ≠ 0x01#8 →
      exec (.twIdleMiss i b) s = .next (withTwist i { d with ts := .idle } s.params.nackByte false s)) ∧
    (d.ts = .ready → exec (.twReadyClass i) s = .next (withTwist i { d with ts := .idMsb } 0x23#8 true s)) ∧
    (d.ts = .ready → b ≠ 0x42#8 →
      exec (.twReadyMiss i b) s = .next (withTwist i { d with ts := .idle } s.params.nackByte false s)) ∧
    (d.ts = .idMsb → exec (.twIdmsb i b) s = .next (withTwist i { d with ts := .buttonsLsb } 0x5A#8 true s)) ∧
    (d.ts = .buttonsLsb → exec (.twBtnlsb i b) s =
      .next (withTwist i { d with ts := .buttonsMsb } (~~~(d.inputs.pressed.setWidth 8)) true s)) ∧
    (d.ts = .buttonsMsb → exec (.twBtnmsb i b) s =
      .next (withTwist i { d with ts := .steering } (~~~((d.inputs.pressed >>> 8).setWidth 8)) true s)) ∧
    (d.ts = .steering → exec (.twSteer i b) s = .next (withTwist i { d with ts := .axisI } d.inputs.steer true s)) ∧
    (d.ts = .axisI → exec (.twAxi i b) s = .next (withTwist i { d with ts := .axisII } d.inputs.axI true s)) ∧
    (d.ts = .axisII → exec (.twAxii i b) s = .next (withTwist i { d with ts := .axisL } d.inputs.axII true s)) ∧
    (d.ts = .axisL → exec (.twAxl i b) s = .next (withTwist i { d with ts := .idle } d.inputs.axL false s))

/-- For a light gun in a slot: in each of its nine transfer states the row of the byte received completes, hands back the byte
and acknowledge the packet gives, and changes only the transfer state; the class-byte row alone also latches the position:
the sentinel (0x0001, 0x000A) where the offscreen input is set, the pointer is absent or BEAM gives none, else BEAM's
position. (44_device_lightgun.md sections 2 and 3). -/
def Obligations.GunRows : Prop :=
  ∀ (s : State) (i : Slot) (d : Gun) (b : Byte), s.ctrlSlot[i] = some (.gun d) →
    (d.gs = .idle → exec (.gunIdleSel i) s = .next (withGun i { d with gs := .ready } s.params.selectReplyByte true s)) ∧
    (d.gs = .idle → b ≠ 0x01#8 →
      exec (.gunIdleMiss i b) s = .next (withGun i { d with gs := .idle } s.params.nackByte false s)) ∧
    (d.gs = .ready → exec (.gunReadyClass i) s =
      .next (withGun i { d with
        gs := .idMsb
        pos := if d.inputs.offscreen = true then ⟨0x0001#16, 0x000A#16⟩
          else (d.inputs.ptr.bind Config.beam).getD ⟨0x0001#16, 0x000A#16⟩ } 0x63#8 true s)) ∧
    (d.gs = .ready → b ≠ 0x42#8 →
      exec (.gunReadyMiss i b) s = .next (withGun i { d with gs := .idle } s.params.nackByte false s)) ∧
    (d.gs = .idMsb → exec (.gunIdmsb i b) s = .next (withGun i { d with gs := .buttonsLsb } 0x5A#8 true s)) ∧
    (d.gs = .buttonsLsb → exec (.gunBtnlsb i b) s =
      .next (withGun i { d with gs := .buttonsMsb } (~~~(d.inputs.pressed.setWidth 8)) true s)) ∧
    (d.gs = .buttonsMsb → exec (.gunBtnmsb i b) s =
      .next (withGun i { d with gs := .xLsb } (~~~((d.inputs.pressed >>> 8).setWidth 8)) true s)) ∧
    (d.gs = .xLsb → exec (.gunXlsb i b) s = .next (withGun i { d with gs := .xMsb } (d.pos.x.setWidth 8) true s)) ∧
    (d.gs = .xMsb → exec (.gunXmsb i b) s = .next (withGun i { d with gs := .yLsb } ((d.pos.x >>> 8).setWidth 8) true s)) ∧
    (d.gs = .yLsb → exec (.gunYlsb i b) s = .next (withGun i { d with gs := .yMsb } (d.pos.y.setWidth 8) true s)) ∧
    (d.gs = .yMsb → exec (.gunYmsb i b) s = .next (withGun i { d with gs := .idle } ((d.pos.y >>> 8).setWidth 8) false s))

/-- PAD.TRANSFER, CARD.TRANSFER and TAP.TRANSFER on a device that is there complete. The pad's and the card's new state and
reply are those of PAD_MODEL and CARD_MODEL. The multitap makes TAP_MODEL's calls on sub-devices, which change only slots of
its own port's sub-ports (TAP_SLOTS); its new state and reply are TAP_MODEL's answer to the replies of those calls. Nothing
else changes. (42_device_framework.md section 2). -/
def Obligations.ModelRowsComplete : Prop :=
  ∀ (s : State) (i : Slot) (p : Port) (b : Byte),
    (∀ d : Pad, s.ctrlSlot[i] = some (.pad d) → exec (.padTransfer i b) s = .next { s with
      ctrlSlot := s.ctrlSlot.set i (some (.pad (Config.padTransfer d b).1))
      returned := some (.reply (Config.padTransfer d b).2) }) ∧
    (∀ m : Card, s.cardSlot[i] = some m → exec (.cardTransfer i b) s = .next { s with
      cardSlot := s.cardSlot.set i (some (Config.cardTransfer m b).1)
      returned := some (.reply (Config.cardTransfer m b).2) }) ∧
    ∀ t : Tap, s.tap[p] = some t →
      ∃ u rs, relayCalls p t b (Config.tapCallLimit t b) [] s = (u, rs) ∧
        (∀ j : Slot, (∀ k : SubPort, Config.tapSlots p k ≠ j) →
          u.ctrlSlot[j] = s.ctrlSlot[j] ∧ u.cardSlot[j] = s.cardSlot[j]) ∧
        exec (.tapTransfer p b) s = .next { s with
          ctrlSlot := u.ctrlSlot
          cardSlot := u.cardSlot
          tap := s.tap.set p (some (Config.tapAnswer t b rs).1)
          returned := some (.reply (Config.tapAnswer t b rs).2) }

/-- Each twist-controller and light-gun row is refused by name at a slot that holds no such device in the row's transfer state,
the four mismatch rows on the byte they exclude, and the pad, card and multitap rows where no such device is. That a row is
refused there is the model's choice (log 7). (30_encoding.md section 4). -/
def Obligations.DeviceRowsRefuseElsewhere : Prop :=
  ∀ (s : State) (i : Slot) (p : Port) (b : Byte),
    (∀ x ∈ [(Instr.twIdleSel i, TwistState.idle), (.twIdleMiss i b, .idle), (.twReadyClass i, .ready), (.twReadyMiss i b, .ready),
        (.twIdmsb i b, .idMsb), (.twBtnlsb i b, .buttonsLsb), (.twBtnmsb i b, .buttonsMsb), (.twSteer i b, .steering),
        (.twAxi i b, .axisI), (.twAxii i b, .axisII), (.twAxl i b, .axisL)],
      (∀ d, s.ctrlSlot[i] = some (.twist d) → d.ts ≠ x.2) → exec x.1 s = .refused .exchangeNotAdmitted) ∧
    (∀ x ∈ [(Instr.gunIdleSel i, GunState.idle), (.gunIdleMiss i b, .idle), (.gunReadyClass i, .ready), (.gunReadyMiss i b, .ready),
        (.gunIdmsb i b, .idMsb), (.gunBtnlsb i b, .buttonsLsb), (.gunBtnmsb i b, .buttonsMsb), (.gunXlsb i b, .xLsb),
        (.gunXmsb i b, .xMsb), (.gunYlsb i b, .yLsb), (.gunYmsb i b, .yMsb)],
      (∀ d, s.ctrlSlot[i] = some (.gun d) → d.gs ≠ x.2) → exec x.1 s = .refused .exchangeNotAdmitted) ∧
    (∀ j ∈ [Instr.twIdleMiss i 0x01#8, .twReadyMiss i 0x42#8, .gunIdleMiss i 0x01#8, .gunReadyMiss i 0x42#8],
      exec j s = .refused .exchangeNotAdmitted) ∧
    ((∀ d, s.ctrlSlot[i] ≠ some (.pad d)) → exec (.padTransfer i b) s = .refused .exchangeNotAdmitted) ∧
    (s.cardSlot[i] = none → exec (.cardTransfer i b) s = .refused .exchangeNotAdmitted) ∧
    (s.tap[p] = none → exec (.tapTransfer p b) s = .refused .exchangeNotAdmitted)

/-- From Idle, the select byte, the class byte and any seven further bytes are answered by: the select reply, 0x23, 0x5A, the
inverted buttons low and high, steering, I, II, all acknowledged, and L without acknowledge; the controller is then in Idle
with its inputs unchanged. (43_device_twist.md section 2, 42_device_framework.md section 2, 95_test_vectors.md part L1). -/
def Obligations.TwistPacket : Prop :=
  ∀ (p : Params) (d : Twist) (b3 b4 b5 b6 b7 b8 b9 : Byte), d.ts = .idle →
    packet (twistTransfer p) d [0x01#8, 0x42#8, b3, b4, b5, b6, b7, b8, b9] =
      (d, [⟨p.selectReplyByte, true⟩, ⟨0x23#8, true⟩, ⟨0x5A#8, true⟩, ⟨~~~(d.inputs.pressed.setWidth 8), true⟩,
        ⟨~~~((d.inputs.pressed >>> 8).setWidth 8), true⟩, ⟨d.inputs.steer, true⟩, ⟨d.inputs.axI, true⟩,
        ⟨d.inputs.axII, true⟩, ⟨d.inputs.axL, false⟩])

/-- From Idle, the select byte, the class byte and any seven further bytes are answered by: the select reply, 0x63, 0x5A, the
inverted buttons low and high, X low and high, Y low, all acknowledged, and Y high without acknowledge, where (X, Y) is the
one position sampled at the class byte; the gun is then in Idle with that position and its inputs unchanged.
(44_device_lightgun.md sections 2 and 3, 42_device_framework.md section 2, 95_test_vectors.md part L1). -/
def Obligations.GunPacket : Prop :=
  ∀ (p : Params) (d : Gun) (q : BeamPos) (b3 b4 b5 b6 b7 b8 b9 : Byte), d.gs = .idle →
    q = (if d.inputs.offscreen = true then ⟨0x0001#16, 0x000A#16⟩
      else (d.inputs.ptr.bind Config.beam).getD ⟨0x0001#16, 0x000A#16⟩) →
    packet (gunTransfer p) d [0x01#8, 0x42#8, b3, b4, b5, b6, b7, b8, b9] =
      ({ d with pos := q }, [⟨p.selectReplyByte, true⟩, ⟨0x63#8, true⟩, ⟨0x5A#8, true⟩,
        ⟨~~~(d.inputs.pressed.setWidth 8), true⟩, ⟨~~~((d.inputs.pressed >>> 8).setWidth 8), true⟩,
        ⟨q.x.setWidth 8, true⟩, ⟨(q.x >>> 8).setWidth 8, true⟩, ⟨q.y.setWidth 8, true⟩,
        ⟨(q.y >>> 8).setWidth 8, false⟩])

/-- A twist controller or light gun that receives a byte other than 0x01 in Idle, or other than 0x42 in Ready, answers the non-
ack byte without acknowledge and is in Idle in that same transfer, with nothing else of it changed. (R192). -/
def Obligations.WrongCommandByteReturnsToIdle : Prop :=
  (∀ (p : Params) (d : Twist) (b : Byte), (d.ts = .idle ∧ b ≠ 0x01#8) ∨ (d.ts = .ready ∧ b ≠ 0x42#8) →
      twistTransfer p d b = ({ d with ts := .idle }, ⟨p.nackByte, false⟩)) ∧
    ∀ (p : Params) (d : Gun) (b : Byte), (d.gs = .idle ∧ b ≠ 0x01#8) ∨ (d.gs = .ready ∧ b ≠ 0x42#8) →
      gunTransfer p d b = ({ d with gs := .idle }, ⟨p.nackByte, false⟩)

/-- DESELECT, SRESET and SYSRESET complete, and whatever a slot or port holds is then in its Idle transfer state with its
inputs, position and contents unchanged; an empty slot stays empty; activeDevice is None. (42_device_framework.md sections 1
and 3, 43_device_twist.md section 4, 44_device_lightgun.md section 3). -/
def Obligations.DeviceResetKeepsInputs : Prop :=
  ∀ (s : State) (j : Instr), j ∈ [Instr.deselect, .sreset, .sysreset] →
    ∃ t, exec j s = .next t ∧ t.activeDevice = .none ∧
      (∀ i : Slot, t.ctrlSlot[i] = s.ctrlSlot[i].map fun c =>
        match c with
        | .pad d => .pad { d with ts := 0 }
        | .twist d => .twist { d with ts := .idle }
        | .gun d => .gun { d with gs := .idle }) ∧
      (∀ i : Slot, t.cardSlot[i] = s.cardSlot[i].map fun c => { c with ts := 0 }) ∧
      ∀ p : Port, t.tap[p].map (fun q => (q.ts, q.settings)) = s.tap[p].map fun q => (0, q.settings)

/-- On a twist controller SET.BUTTON sets or clears the one bit its table assigns to the index, and changes nothing for an index
outside the table; on a pad it is PAD_MODEL's; on an empty slot it changes nothing. No transfer state, register or event
changes. (45_host_interface.md section 2, 43_device_twist.md section 3). -/
def Obligations.SetButtonOnTwistPadOrNothing : Prop :=
  ∀ (s : State) (i : Slot) (b : Nat) (v : Bool),
    (∀ d : Twist, s.ctrlSlot[i] = some (.twist d) →
      ∃ m, (∀ k : Nat, m.getLsbD k = if (s.params.twistButtonBits.val[b]?).map Fin.val = some k then v else d.inputs.pressed.getLsbD k) ∧
        exec (.setButton i b v) s = .next { s with
          ctrlSlot := s.ctrlSlot.set i (some (.twist { d with inputs := { d.inputs with pressed := m } })) }) ∧
    (∀ d : Pad, s.ctrlSlot[i] = some (.pad d) → exec (.setButton i b v) s = .next { s with
      ctrlSlot := s.ctrlSlot.set i (some (.pad { d with inputs := Config.padSetButton d.inputs b v })) }) ∧
    (s.ctrlSlot[i] = none → exec (.setButton i b v) s = .next s)

/-- Index 3 set to the value it already has changes nothing; set to the other value it updates both offscreen and the Trigger's
bit. Indices 0, 1 and 2 set or clear their table bit and do not touch offscreen; an index above 3 changes nothing. (R254,
R255). -/
def Obligations.SetButtonOnGun : Prop :=
  ∀ (s : State) (i : Slot) (b : Nat) (v : Bool) (d : Gun), s.ctrlSlot[i] = some (.gun d) →
    (b = 3 → d.inputs.offscreen = v → exec (.setButton i b v) s = .next s) ∧
    (b = 3 → d.inputs.offscreen ≠ v →
      ∃ m, (∀ k : Nat, m.getLsbD k = if s.params.gunButtonBits[0].val = k then v else d.inputs.pressed.getLsbD k) ∧
        exec (.setButton i b v) s = .next { s with
          ctrlSlot := s.ctrlSlot.set i (some (.gun { d with inputs := { d.inputs with offscreen := v, pressed := m } })) }) ∧
    (∀ h : b < 3,
      ∃ m, (∀ k : Nat, m.getLsbD k = if s.params.gunButtonBits[b].val = k then v else d.inputs.pressed.getLsbD k) ∧
        exec (.setButton i b v) s = .next { s with
          ctrlSlot := s.ctrlSlot.set i (some (.gun { d with inputs := { d.inputs with pressed := m } })) }) ∧
    (3 < b → exec (.setButton i b v) s = .next s)

/-- On a twist controller index 0 stores SteerMap of the value, indices 1, 2 and 3 store AnalogMap of it in the I, II and L
axis, and any other index changes nothing; on a pad it is PAD_MODEL's; on a light gun and on an empty slot it changes
nothing. (45_host_interface.md section 2, 43_device_twist.md section 3). -/
def Obligations.SetAxisByVariant : Prop :=
  ∀ (s : State) (i : Slot) (a : Nat) (x : RealNum),
    (∀ d : Twist, s.ctrlSlot[i] = some (.twist d) →
      exec (.setAxis i a x) s = .next { s with
        ctrlSlot := s.ctrlSlot.set i (some (.twist { d with
          inputs := { d.inputs with
            steer := if a = 0 then steerMap x else d.inputs.steer
            axI := if a = 1 then analogMap s.params.analogRounding x else d.inputs.axI
            axII := if a = 2 then analogMap s.params.analogRounding x else d.inputs.axII
            axL := if a = 3 then analogMap s.params.analogRounding x else d.inputs.axL } })) }) ∧
    (∀ d : Pad, s.ctrlSlot[i] = some (.pad d) → exec (.setAxis i a x) s = .next { s with
      ctrlSlot := s.ctrlSlot.set i (some (.pad { d with inputs := Config.padSetAxis d.inputs a x })) }) ∧
    ((∃ d : Gun, s.ctrlSlot[i] = some (.gun d)) ∨ s.ctrlSlot[i] = none → exec (.setAxis i a x) s = .next s)

/-- On a light gun SET.POINTER stores the reported position or Absent, and neither the latched position nor the transfer state
changes; for any other variant and for an empty slot it changes nothing. (45_host_interface.md section 2,
44_device_lightgun.md section 3). -/
def Obligations.SetPointerReachesGunsOnly : Prop :=
  ∀ (s : State) (i : Slot) (q : Option Pointer),
    (∀ d : Gun, s.ctrlSlot[i] = some (.gun d) → exec (.setPointer i q) s = .next { s with
      ctrlSlot := s.ctrlSlot.set i (some (.gun { d with inputs := { d.inputs with ptr := q } })) }) ∧
    ((∀ d : Gun, s.ctrlSlot[i] ≠ some (.gun d)) → exec (.setPointer i q) s = .next s)

/-- For every real deadzone of [0, 1), every response curve and every real input: inputs of at most -1 give 0, inputs of at
least 1 give 255, and inputs whose magnitude is at most the deadzone (0 among them) give 128. The configured deadzone is
admissible, and SET.AXIS maps an operand by the map of the configured deadzone and curve at the real number it stands for.
(43_device_twist.md section 3). -/
def Obligations.SteeringMapRange : Prop :=
  (∀ (dz : ℝ) (c : Curve) (x : ℝ), 0 ≤ dz → dz < 1 →
      (x ≤ -1 → steerMapWith dz c x = 0#8) ∧ (1 ≤ x → steerMapWith dz c x = 255#8) ∧
      (-dz ≤ x → x ≤ dz → steerMapWith dz c x = 128#8)) ∧
    (0 ≤ Config.twistDeadzone ∧ Config.twistDeadzone < 1) ∧
    ∀ x : RealNum, steerMap x = steerMapWith Config.twistDeadzone Config.twistCurve x.value

/-- For every real deadzone of [0, 1) and every response curve, a larger steering input never gives a smaller steering byte.
(43_device_twist.md section 3). -/
def Obligations.SteeringMapMonotone : Prop :=
  ∀ (dz : ℝ) (c : Curve) (x y : ℝ), 0 ≤ dz → dz < 1 → x ≤ y →
    (steerMapWith dz c x).toNat ≤ (steerMapWith dz c y).toNat

/-- For every operand, by the real number it stands for: inputs of at most 0 give 0 and inputs of at least 1 give 255 under both
roundings; between them TRUNCATE gives the integer part of 255 times the input and NEAREST the nearest integer, ties up.
(43_device_twist.md section 3). -/
def Obligations.AnalogMapRange : Prop :=
  ∀ (r : AnalogRounding) (v : RealNum),
    (v.value ≤ 0 → analogMap r v = 0#8) ∧ (1 ≤ v.value → analogMap r v = 255#8) ∧
      (0 ≤ v.value → v.value ≤ 1 → ((analogMap .truncate v).toNat : Int) = ⌊v.value * 255⌋ ∧
        ((analogMap .nearest v).toNat : Int) = ⌊v.value * 255 + 1 / 2⌋)

/-- The new controller is in Idle, with the inputs given or else the variant's initial ones (twist: nothing pressed, steering
128, axes 0; gun: nothing pressed, on screen, pointer absent, any position); in the mask of pressed buttons the bits of the
variant's table are as given and every other bit is 0 (that the others of a given mask are cleared is the model's choice,
log 27); every bus register, busState, activeDevice, the event and the other slots stay. (45_host_interface.md section 1,
43_device_twist.md section 4, 44_device_lightgun.md section 3). -/
def Obligations.AttachedControllerIsFresh : Prop :=
  ∀ (s : State) (i : Slot) (c : CtrlInit),
    ∃ x n, exec (.attachCtrl i c) s = .next { s with ctrlSlot := s.ctrlSlot.set i (some x), draws := n } ∧
      match c with
      | .pad q => x = .pad ⟨0, q.getD Config.padInitialInputs⟩
      | .twist q => ∃ m, KeepsAssigned s.params.twistButtonBits.val (q.getD ⟨0#16, 128#8, 0#8, 0#8, 0#8⟩).pressed m ∧
        x = .twist ⟨.idle, { q.getD ⟨0#16, 128#8, 0#8, 0#8, 0#8⟩ with pressed := m }⟩
      | .gun q => ∃ m pos, KeepsAssigned s.params.gunButtonBits.toList (q.getD ⟨0#16, false, none⟩).pressed m ∧
        x = .gun ⟨.idle, { q.getD ⟨0#16, false, none⟩ with pressed := m }, pos⟩

/-- DETACH.CTRL and DETACH.CARD empty the slot; ATTACH.CARD puts the card in with its transfer state Idle and its contents as
given; TAKE.CARD empties the slot and hands back what it held, or none; SET.TAP binds the multitap in its Idle transfer
state or unbinds it; that a bound multitap keeps the addressing and settings it is given with is the model's choice (log
22). No bus register, busState, activeDevice or event changes. (45_host_interface.md section 1). -/
def Obligations.SlotOperations : Prop :=
  ∀ (s : State) (i : Slot) (p : Port) (c : Card) (q : Option Tap),
    exec (.detachCtrl i) s = .next { s with ctrlSlot := s.ctrlSlot.set i none } ∧
      exec (.attachCard i c) s = .next { s with cardSlot := s.cardSlot.set i (some ⟨0, c.contents⟩) } ∧
      exec (.detachCard i) s = .next { s with cardSlot := s.cardSlot.set i none } ∧
      exec (.takeCard i) s = .next { s with
        cardSlot := s.cardSlot.set i none
        returned := some (.card s.cardSlot[i]) } ∧
      exec (.setTap p q) s = .next { s with tap := s.tap.set p (q.map fun t => { t with ts := 0 }) }

/-- CTRL, MODE, BAUD, both latches, their presence flags and the in-flight byte are 0, STAT is 0x00000005, busState Idle,
activeDevice None, the event inactive and the output list empty. (10_state.md section 6, 70_reset_and_hazards.md section 1). -/
def Obligations.PowerOnState : Prop :=
  State.reset.ctrl = 0x0000#16 ∧ State.reset.stat = 0x00000005#32 ∧ State.reset.mode = 0x0000#16 ∧
    State.reset.baud = 0x0000#16 ∧ State.reset.transmitBuffer = 0x00#8 ∧ State.reset.transmitFull = false ∧
    State.reset.receiveBuffer = 0x00#8 ∧ State.reset.receiveFull = false ∧ State.reset.inFlight = 0x00#8 ∧
    State.reset.busState = .idle ∧ State.reset.activeDevice = .none ∧ State.reset.ev.active = false ∧
    State.reset.outputs = []

/-- SNAPSHOT changes nothing but what it hands back. Restoring that snapshot later, with devices of the same variants attached
cards of the same contents and button tables whose unassigned bits are 0 in the recorded masks (log 27), succeeds and gives
every register, latch, sequencing element and device the state at the snapshot; the event is active exactly if it was, and
as many ticks ahead of the present time as it was then, even in the middle of a transfer. The time, the output list and the
attached devices' places are not restored. (45_host_interface.md section 4, 95_test_vectors.md part L1). -/
def Obligations.SnapshotRestoreRoundTrip : Prop :=
  ∀ s v : State, StatusFresh s → SameDevices s v →
    (∀ (i : Slot) (c : Controller), s.ctrlSlot[i] = some c → UnassignedClearOf v.params c) →
    ∃ sn, exec .snapshot s = .next { s with returned := some (.snapshot sn) } ∧
      ∃ dl n, (s.ev.active = true → s.now ≤ s.ev.deadline → dl = v.now + (s.ev.deadline - s.now)) ∧
        exec (.restore sn) v = .next { v with
          ctrl := s.ctrl
          stat := s.stat
          mode := s.mode
          baud := s.baud
          transmitBuffer := s.transmitBuffer
          transmitFull := s.transmitFull
          receiveBuffer := s.receiveBuffer
          receiveFull := s.receiveFull
          inFlight := s.inFlight
          busState := s.busState
          activeDevice := s.activeDevice
          ev := { active := s.ev.active, deadline := dl }
          ctrlSlot := s.ctrlSlot
          cardSlot := s.cardSlot
          tap := s.tap
          returned := some (.restored true)
          draws := n }

/-- RESTORE of an intact snapshot of any version completes with success reported, the time and outputs kept. Every bit of CTRL
and STAT, every other register, latch and flag, busState, activeDevice, each of the event's two fields and every field of
each slot's device takes the recorded value where the snapshot's version holds the field and keeps its live value where it
does not (which fields a version holds is an open table, log 18; the derived STAT bits are then recomputed, log 21;
unassigned bits of a recorded pressed mask are cleared, log 27); the deadline is as many ticks ahead as recorded. A slot or
port whose record the version lacks stays as it is. Where the version records it, a controller of another variant than the
snapshot's, a card whose contents differ from the recorded ones, and a card the snapshot has none for keep their inputs and
contents and are reset, and so is a multitap the snapshot has none for (log 28); an empty slot stays empty. RESTORE of a
broken stream completes with failure reported and the run marked. (45_host_interface.md section 4). -/
def Obligations.RestoreExceptions : Prop :=
  ∀ (s : State) (ver : Nat) (img : Image),
    (∃ t, exec (.restore (.intact ver img)) s = .next t ∧ t.now = s.now ∧ t.outputs = s.outputs ∧
      t.returned = some (.restored true) ∧ t.restoreFailed = s.restoreFailed ∧
      (RestoredBits ver .ctrl img.ctrl s.ctrl t.ctrl ∧ t.mode = restoredValue ver .mode img.mode s.mode ∧
        t.baud = restoredValue ver .baud img.baud s.baud ∧
        (∃ st, RestoredBits ver .stat img.stat s.stat st ∧
          Recomputed st t.stat t.transmitFull t.receiveFull t.busState) ∧
        t.transmitBuffer = restoredValue ver .transmitBuffer img.transmitBuffer s.transmitBuffer ∧
        t.transmitFull = restoredValue ver .transmitFull img.transmitFull s.transmitFull ∧
        t.receiveBuffer = restoredValue ver .receiveBuffer img.receiveBuffer s.receiveBuffer ∧
        t.receiveFull = restoredValue ver .receiveFull img.receiveFull s.receiveFull ∧
        t.inFlight = restoredValue ver .inFlight img.inFlight s.inFlight ∧
        t.busState = restoredValue ver .busState img.busState s.busState ∧
        t.activeDevice = restoredValue ver .activeDevice img.activeDevice s.activeDevice) ∧
      (t.ev.active = restoredValue ver .evActive img.evActive s.ev.active ∧
        (Config.versionHas ver .evRemaining = true → t.ev.active = true → 0 ≤ (s.now : Int) + img.evRemaining →
          (t.ev.deadline : Int) = s.now + img.evRemaining) ∧
        (Config.versionHas ver .evRemaining = false → t.ev.deadline = s.ev.deadline)) ∧
      (∀ k : Slot, t.ctrlSlot[k].isSome = s.ctrlSlot[k].isSome ∧ t.cardSlot[k].isSome = s.cardSlot[k].isSome) ∧
      (∀ p : Port, t.tap[p].isSome = s.tap[p].isSome) ∧
      (∀ k : Slot, Config.versionHas ver (.ctrlSlot k) = false → t.ctrlSlot[k] = s.ctrlSlot[k]) ∧
      (∀ (k : Slot) (d : Controller), Config.versionHas ver (.ctrlSlot k) = true → s.ctrlSlot[k] = some d →
        (img.ctrlSlot[k].map variantOf ≠ some (variantOf d) → t.ctrlSlot[k] = some (resetController d)) ∧
        (∀ l r : Pad, d = .pad l → img.ctrlSlot[k] = some (.pad r) → t.ctrlSlot[k] = some (.pad
          { ts := restoredValue ver (.padTs k) r.ts l.ts
            inputs := restoredValue ver (.padInputs k) r.inputs l.inputs })) ∧
        (∀ l r : Twist, d = .twist l → img.ctrlSlot[k] = some (.twist r) →
          ∃ g m, KeepsAssigned s.params.twistButtonBits.val r.inputs.pressed g ∧
            RestoredBits ver (.twistPressed k) g l.inputs.pressed m ∧ t.ctrlSlot[k] = some (.twist
            { ts := restoredValue ver (.twistTs k) r.ts l.ts
              inputs := {
                pressed := m
                steer := restoredValue ver (.twistSteer k) r.inputs.steer l.inputs.steer
                axI := restoredValue ver (.twistAxI k) r.inputs.axI l.inputs.axI
                axII := restoredValue ver (.twistAxII k) r.inputs.axII l.inputs.axII
                axL := restoredValue ver (.twistAxL k) r.inputs.axL l.inputs.axL } })) ∧
        ∀ l r : Gun, d = .gun l → img.ctrlSlot[k] = some (.gun r) →
          ∃ g m, KeepsAssigned s.params.gunButtonBits.toList r.inputs.pressed g ∧
            RestoredBits ver (.gunPressed k) g l.inputs.pressed m ∧ t.ctrlSlot[k] = some (.gun
            { gs := restoredValue ver (.gunGs k) r.gs l.gs
              inputs := {
                pressed := m
                offscreen := restoredValue ver (.gunOffscreen k) r.inputs.offscreen l.inputs.offscreen
                ptr := restoredValue ver (.gunPtr k) r.inputs.ptr l.inputs.ptr }
              pos := {
                x := restoredValue ver (.gunPosX k) r.pos.x l.pos.x
                y := restoredValue ver (.gunPosY k) r.pos.y l.pos.y } })) ∧
      (∀ k : Slot, Config.versionHas ver (.cardSlot k) = false → t.cardSlot[k] = s.cardSlot[k]) ∧
      (∀ (k : Slot) (m : Card), Config.versionHas ver (.cardSlot k) = true → s.cardSlot[k] = some m →
        (img.cardSlot[k] = none → t.cardSlot[k] = some { m with ts := 0 }) ∧
        ∀ m' : Card, img.cardSlot[k] = some m' →
          (Config.versionHas ver (.cardContents k) = true ∧
              Config.cardContentKey m'.contents ≠ Config.cardContentKey m.contents →
            t.cardSlot[k] = some { m with ts := 0 }) ∧
          (Config.versionHas ver (.cardContents k) = false ∨
              Config.cardContentKey m'.contents = Config.cardContentKey m.contents →
            t.cardSlot[k] = some
              { ts := restoredValue ver (.cardTs k) m'.ts m.ts
                contents := restoredValue ver (.cardContents k) m'.contents m.contents })) ∧
      (∀ p : Port, Config.versionHas ver (.tap p) = false → t.tap[p] = s.tap[p]) ∧
      (∀ (p : Port) (q : Tap), Config.versionHas ver (.tap p) = true → s.tap[p] = some q →
        (img.tap[p] = none → t.tap[p] = some (resetTap q)) ∧
        ∀ r : Tap, img.tap[p] = some r → t.tap[p] = some
          { ts := restoredValue ver (.tapTs p) r.ts q.ts
            addressing := restoredValue ver (.tapAddressing p) r.addressing q.addressing
            settings := restoredValue ver (.tapSettings p) r.settings q.settings })) ∧
    ∃ t, exec (.restore .broken) s = .next t ∧ t.restoreFailed = true ∧ t.returned = some (.restored false)

/-- For every state in which the event is active exactly when busState is not Idle (in a run in which no restore failed), and
whose presented operations are well formed, every step that answers a next state keeps that. The proviso on failed restores
is R285's. The provisos on the snapshots presented are the model's (log 18): the block recorded is one a block can have, and
its version holds busState and ev.active together or neither (a version with one of the two would break the tie, since a
missing field keeps its live value). (10_state.md section 5, 45_host_interface.md section 4). -/
def Obligations.StepKeepsEventTied : Prop :=
  ∀ s s' : State, PendingWellFormed s → PendingTied s → (s.restoreFailed = false → EventTied s) → step s = .next s' →
    (s'.restoreFailed = false → EventTied s')

/-- For every state in which TXRDY, RXNE and TXDONE equal their formulas over the latches and busState (in a run in which no
restore failed), every step that answers a next state keeps that. For the restore of a snapshot of an older version this
rests on the recompute the model ends a restore with (log 21). (10_state.md section 5). -/
def Obligations.StepKeepsStatusFresh : Prop :=
  ∀ s s' : State, (s.restoreFailed = false → StatusFresh s) → step s = .next s' →
    (s'.restoreFailed = false → StatusFresh s')

/-- For every state in which STAT bits 3 to 6, 8 and 10 to 31 are 0 (in a run in which no restore failed) and whose presented
operations are well formed, every step that answers a next state keeps them 0; and a write of any width at offset 0x4
changes no state. The proviso on failed restores is R285's. The proviso on the snapshots presented is the model's (log 18):
the block recorded is one a block can have, so that its reserved STAT bits are 0. (10_state.md section 2,
45_host_interface.md section 4). -/
def Obligations.StepKeepsReservedClear : Prop :=
  (∀ s s' : State, PendingWellFormed s → (s.restoreFailed = false → ReservedClear s) → step s = .next s' →
      (s'.restoreFailed = false → ReservedClear s')) ∧
    ∀ (s : State) (v : Word), ∀ i ∈ [Instr.wrStat8 v, .wrStat16 v, .wrStat32 v], exec i s = .next s

/-- For every state in which an active event's deadline lies after now (in a run in which no restore failed) and whose presented
operations are well formed, every step that answers a next state keeps that: no event is ever overdue when an agent's
operation begins. The provisos on the snapshots presented are the model's (log 18): the block recorded is one a block can
have, and its version holds the event's two fields together or neither (a version with one of the two would give one event
the deadline of another, since a missing field keeps its live value). (45_host_interface.md sections 3 and 4,
60_exceptions.md section 3). -/
def Obligations.StepKeepsEventAhead : Prop :=
  ∀ s s' : State, PendingWellFormed s → PendingTimed s → (s.restoreFailed = false → EventAhead s) → step s = .next s' →
    (s'.restoreFailed = false → EventAhead s')

/-- The state after reset has no failed restore, its event is inactive with the bus idle, its derived STAT bits equal their
formulas, its unassigned STAT bits are 0, and no operation is presented (that none is, is the model's choice, log 5); so
every invariant of the statements about a step holds in it, the unassigned button bits among them (no controller is
attached, log 3). (10_state.md sections 5 and 6). -/
def Obligations.ResetSatisfiesInvariants : Prop :=
  (State.reset.restoreFailed = false ∧ State.reset.ev.active = false ∧ State.reset.busState = .idle ∧
      State.reset.pending = []) ∧
    EventTied State.reset ∧ StatusFresh State.reset ∧ ReservedClear State.reset ∧ EventAhead State.reset ∧
    UnassignedClear State.reset ∧ PendingWellFormed State.reset ∧ PendingTied State.reset ∧
    PendingTimed State.reset

/-- Every operation that answers a next state leaves the parameters and the list of presented operations as they were, and never
clears the mark of a failed restore; so every step keeps the parameters, and keeps the conditions on the presented
operations. That the parameters with a default and the operations still to be performed are fields of State is the model's
choice (log 1, log 5). In a run in which no restore failed, every step that answers a next state keeps: the bits of a twist
controller's or light gun's pressed mask that its table assigns to no button are 0 (for a mask handed in from outside this
rests on log 27). (45_host_interface.md section 4, 00_scope.md section 4, 43_device_twist.md section 1,
44_device_lightgun.md section 1). -/
def Obligations.OperationsLeaveParametersAndQueue : Prop :=
  (∀ (i : Instr) (s t : State), exec i s = .next t →
      t.params = s.params ∧ t.pending = s.pending ∧ (s.restoreFailed = true → t.restoreFailed = true)) ∧
    (∀ s s' : State, step s = .next s' → s'.params = s.params ∧ (PendingWellFormed s → PendingWellFormed s') ∧
      (PendingTied s → PendingTied s') ∧ (PendingTimed s → PendingTimed s')) ∧
    ∀ s s' : State, (s.restoreFailed = false → UnassignedClear s) → step s = .next s' →
      (s'.restoreFailed = false → UnassignedClear s')

/-- In a run in which no restore failed, the output list after a step that answers a next state has the list before it as a
prefix: no raise and no read value is ever retracted. (10_state.md section 4). -/
def Obligations.OutputsAppendOnly : Prop :=
  ∀ s s' : State, step s = .next s' → s'.restoreFailed = false → s.outputs <+: s'.outputs

/-- A due acknowledge tick with ACKINTEN set appends one raise. Nothing else raises: an event firing in another bus state, any
operation that is no firing and no advance of time, and a firing or an advance that begins with ACKINTEN clear leave the
raises of the output list as they were, and unless it is a restore it turns no INTR on. A failed restore is excluded: after
it nothing is claimed of the run. (R303). -/
def Obligations.OnlyAcknowledgeTickRaises : Prop :=
  (∀ s : State, AckDue s → s.ctrl.getLsbD 12 = true → ∀ i ∈ [Instr.evtFire, .evtAck],
      ∃ t, exec i s = .next t ∧ raises t.outputs = raises s.outputs ++ [.irq Config.irqLine]) ∧
    ∀ (i : Instr) (s t : State), exec i s = .next t → i ≠ .restore .broken →
      (i ∈ [Instr.evtFire, .evtAck] → s.busState ≠ .waitingForAck ∨ s.ctrl.getLsbD 12 = false) →
      (∀ n, i = .advance n ∨ i = .wait n → s.ctrl.getLsbD 12 = false) →
      raises t.outputs = raises s.outputs ∧
        ((∀ st, i ≠ .restore st) → t.stat.getLsbD 9 = true → s.stat.getLsbD 9 = true)

/-- A raw register line assembles, at every width and offset, to one operation whose word has those fields. A named line
assembles to the named register's access; without a width suffix DATA is 8 bits, STAT 32 and MODE, CTRL and BAUD 16
(MODECTRL without a suffix is 32 bits, the model's reading, log 26). A name with a width it has no row at spells nothing.
(30_encoding.md section 5). -/
def Obligations.AssemblerSpellings : Prop :=
  (∀ (w : Width) (off : BitVec 4) (v : Word),
      (∃ i, assemble (.rawRead w off) = some [i] ∧ encode i = .op ⟨busWord false w off, .none⟩) ∧
      ∃ i, assemble (.rawWrite w off v) = some [i] ∧ encode i = .op ⟨busWord true w off, .value v⟩) ∧
    (∀ v : Word, ∀ x ∈ [(AsmReg.data, some Width.w8, Instr.rdData8, Instr.wrData8 v), (.data, some .w16, .rdData16, .wrData16 v),
        (.data, some .w32, .rdData32, .wrData32 v), (.stat, some .w8, .rdStat8, .wrStat8 v),
        (.stat, some .w16, .rdStat16, .wrStat16 v), (.stat, some .w32, .rdStat32, .wrStat32 v),
        (.mode, some .w8, .rdMode8, .wrMode8 v), (.mode, some .w16, .rdMode16, .wrMode16 v),
        (.modectrl, some .w32, .rdModectrl, .wrModectrl v), (.ctrl, some .w8, .rdCtrl8, .wrCtrl8 v),
        (.ctrl, some .w16, .rdCtrl16, .wrCtrl16 v), (.baud, some .w8, .rdBaud8, .wrBaud8 v),
        (.baud, some .w16, .rdBaud16, .wrBaud16 v), (.data, none, .rdData8, .wrData8 v), (.stat, none, .rdStat32, .wrStat32 v),
        (.mode, none, .rdMode16, .wrMode16 v), (.ctrl, none, .rdCtrl16, .wrCtrl16 v), (.baud, none, .rdBaud16, .wrBaud16 v),
        (.modectrl, none, .rdModectrl, .wrModectrl v)],
      assemble (.read x.1 x.2.1) = some [x.2.2.1] ∧ assemble (.write x.1 x.2.1 v) = some [x.2.2.2]) ∧
    ∀ v : Word, ∀ x ∈ [(AsmReg.mode, Width.w32), (.ctrl, .w32), (.baud, .w32), (.modectrl, .w8), (.modectrl, .w16)],
      assemble (.read x.1 (some x.2)) = none ∧ assemble (.write x.1 (some x.2) v) = none
end

