-- ==== Sys2Proof/Laws/Bits.lean ====
section
/-! SUPPORT. The bits of what the flag operations and the operand forms compute. -/

namespace Sys2Proof.Machine

/-- The bits of a word with one bit set. -/
theorem getLsbD_setBit {n : Nat} (v : BitVec n) (i k : Nat) (b : Bool) :
    (setBit v i b).getLsbD k = if i = k ∧ k < n then b else v.getLsbD k := by
  unfold setBit
  by_cases hk : k < n
  · cases b <;> by_cases h : i = k <;> simp [h, hk]
    all_goals omega
  · have hge : n ≤ k := Nat.le_of_not_lt hk
    simp only [hk, and_false, if_false, BitVec.getLsbD_of_ge _ k hge]

/-- The bits of a recomputed STAT (R154). -/
theorem getLsbD_recompute (st : BitVec 32) (tf rf : Bool) (bus : BusState) (k : Nat) :
    (recompute st tf rf bus).getLsbD k =
      if k = 0 then !tf else if k = 1 then rf else if k = 2 then (!tf && bus != .transmitting) else st.getLsbD k := by
  unfold recompute txrdyOf rxneOf txdoneOf
  simp only [getLsbD_setBit]
  split_ifs <;> first | rfl | omega

/-- A value cut to an access width keeps its low bits. -/
theorem getLsbD_lowBits (w : Width) (v : Word) (k : Nat) :
    (lowBits w v).getLsbD k = (decide (k < w.bits) && v.getLsbD k) := by
  cases w <;> simp only [lowBits, Width.bits, BitVec.getLsbD_setWidth]
  · by_cases h : k < 8 <;> by_cases h' : k < 32 <;> simp [h, h']; omega
  · by_cases h : k < 16 <;> by_cases h' : k < 32 <;> simp [h, h']; omega
  · by_cases h : k < 32 <;> simp [h]
    exact BitVec.getLsbD_of_ge v k (by omega)

/-- Every byte lane of a DATA read holds the byte (R74). -/
theorem getLsbD_replicateByte (w : Width) (b : Byte) (k : Nat) :
    (replicateByte w b).getLsbD k = (decide (k < w.bits) && b.getLsbD (k % 8)) := by
  cases w <;>
    simp only [replicateByte, Width.bits, BitVec.getLsbD_setWidth, BitVec.getLsbD_append]
  · by_cases h : k < 8
    · simp [h, Nat.mod_eq_of_lt h]; omega
    · simp [h, BitVec.getLsbD_of_ge b k (by omega)]
  · by_cases h : k < 8
    · have h1 : k < 16 := by omega
      have h2 : k < 32 := by omega
      simp [h, h1, h2, Nat.mod_eq_of_lt h]
    · by_cases h1 : k < 16
      · have h2 : k < 32 := by omega
        have h3 : k % 8 = k - 8 := by omega
        simp [h, h1, h2, h3]
      · simp [h, h1, BitVec.getLsbD_of_ge b (k - 8) (by omega)]
  · by_cases h : k < 8
    · have h1 : k < 32 := by omega
      simp [h, h1, Nat.mod_eq_of_lt h]
    · by_cases h1 : k < 16
      · have h2 : k < 32 := by omega
        have h3 : k % 8 = k - 8 := by omega
        have h4 : k - 8 < 8 := by omega
        simp [h, h2, h3, h4]
      · by_cases h2 : k < 24
        · have h3 : k < 32 := by omega
          have h4 : k % 8 = k - 8 - 8 := by omega
          have h5 : ¬ k - 8 < 8 := by omega
          have h6 : k - 8 - 8 < 8 := by omega
          simp [h, h3, h4, h5, h6]
        · by_cases h3 : k < 32
          · have h4 : k % 8 = k - 8 - 8 - 8 := by omega
            have h5 : ¬ k - 8 < 8 := by omega
            have h6 : ¬ k - 8 - 8 < 8 := by omega
            simp [h, h3, h4, h5, h6]
          · have h5 : ¬ k - 8 < 8 := by omega
            have h6 : ¬ k - 8 - 8 < 8 := by omega
            simp [h, h3, h5, h6, BitVec.getLsbD_of_ge b (k - 8 - 8 - 8) (by omega)]

/-- What a write stores in a 16-bit register (R78). -/
theorem getLsbD_storeHalf (w : Width) (v : Word) (k : Nat) :
    (storeHalf w v).getLsbD k = (decide (k < 16 ∧ k < w.bits) && v.getLsbD k) := by
  unfold storeHalf
  rw [BitVec.getLsbD_setWidth, getLsbD_lowBits]
  by_cases h : k < 16 <;> simp [h]

/-! ### Unassigned button bits (R212, R242, log 27) -/

/-- A pressed mask taken over keeps exactly the bits that a button is assigned to. -/
theorem getLsbD_keepAssigned (bits : List (Fin 16)) (m : BitVec 16) (k : Nat) :
    (keepAssigned bits m).getLsbD k = (decide (∃ j ∈ bits, j.val = k) && m.getLsbD k) := by
  have h : (assignedMask bits).getLsbD k = decide (∃ j ∈ bits, j.val = k) := by
    induction bits with
    | nil => simp [assignedMask]
    | cons j bits ih =>
      rw [assignedMask, getLsbD_setBit, ih]
      by_cases hj : j.val = k
      · simp [hj, show k < 16 by omega]
      · simp [hj]
  rw [keepAssigned, BitVec.getLsbD_and, h, Bool.and_comm]

end Sys2Proof.Machine
end

