-- ==== Sys2Proof/Laws/State.lean ====
section
/-! SUPPORT. What each update of State leaves and writes: one lemma per update and field, true by `rfl`. -/

namespace Sys2Proof.Machine

variable (s : State)

section Ctrl
variable (v : BitVec 16)

@[simp] theorem State.setCtrl_ctrl : (s.setCtrl v).ctrl = v := rfl
@[simp] theorem State.setCtrl_stat : (s.setCtrl v).stat = s.stat := rfl
@[simp] theorem State.setCtrl_mode : (s.setCtrl v).mode = s.mode := rfl
@[simp] theorem State.setCtrl_baud : (s.setCtrl v).baud = s.baud := rfl
@[simp] theorem State.setCtrl_transmitBuffer : (s.setCtrl v).transmitBuffer = s.transmitBuffer := rfl
@[simp] theorem State.setCtrl_transmitFull : (s.setCtrl v).transmitFull = s.transmitFull := rfl
@[simp] theorem State.setCtrl_receiveBuffer : (s.setCtrl v).receiveBuffer = s.receiveBuffer := rfl
@[simp] theorem State.setCtrl_receiveFull : (s.setCtrl v).receiveFull = s.receiveFull := rfl
@[simp] theorem State.setCtrl_inFlight : (s.setCtrl v).inFlight = s.inFlight := rfl
@[simp] theorem State.setCtrl_busState : (s.setCtrl v).busState = s.busState := rfl
@[simp] theorem State.setCtrl_activeDevice : (s.setCtrl v).activeDevice = s.activeDevice := rfl
@[simp] theorem State.setCtrl_ev : (s.setCtrl v).ev = s.ev := rfl
@[simp] theorem State.setCtrl_now : (s.setCtrl v).now = s.now := rfl
@[simp] theorem State.setCtrl_ctrlSlot : (s.setCtrl v).ctrlSlot = s.ctrlSlot := rfl
@[simp] theorem State.setCtrl_cardSlot : (s.setCtrl v).cardSlot = s.cardSlot := rfl
@[simp] theorem State.setCtrl_tap : (s.setCtrl v).tap = s.tap := rfl
@[simp] theorem State.setCtrl_outputs : (s.setCtrl v).outputs = s.outputs := rfl
@[simp] theorem State.setCtrl_restoreFailed : (s.setCtrl v).restoreFailed = s.restoreFailed := rfl
@[simp] theorem State.setCtrl_params : (s.setCtrl v).params = s.params := rfl
@[simp] theorem State.setCtrl_pending : (s.setCtrl v).pending = s.pending := rfl
@[simp] theorem State.setCtrl_returned : (s.setCtrl v).returned = s.returned := rfl
@[simp] theorem State.setCtrl_draws : (s.setCtrl v).draws = s.draws := rfl

end Ctrl

section Stat
variable (v : BitVec 32)

@[simp] theorem State.setStat_ctrl : (s.setStat v).ctrl = s.ctrl := rfl
@[simp] theorem State.setStat_stat : (s.setStat v).stat = v := rfl
@[simp] theorem State.setStat_mode : (s.setStat v).mode = s.mode := rfl
@[simp] theorem State.setStat_baud : (s.setStat v).baud = s.baud := rfl
@[simp] theorem State.setStat_transmitBuffer : (s.setStat v).transmitBuffer = s.transmitBuffer := rfl
@[simp] theorem State.setStat_transmitFull : (s.setStat v).transmitFull = s.transmitFull := rfl
@[simp] theorem State.setStat_receiveBuffer : (s.setStat v).receiveBuffer = s.receiveBuffer := rfl
@[simp] theorem State.setStat_receiveFull : (s.setStat v).receiveFull = s.receiveFull := rfl
@[simp] theorem State.setStat_inFlight : (s.setStat v).inFlight = s.inFlight := rfl
@[simp] theorem State.setStat_busState : (s.setStat v).busState = s.busState := rfl
@[simp] theorem State.setStat_activeDevice : (s.setStat v).activeDevice = s.activeDevice := rfl
@[simp] theorem State.setStat_ev : (s.setStat v).ev = s.ev := rfl
@[simp] theorem State.setStat_now : (s.setStat v).now = s.now := rfl
@[simp] theorem State.setStat_ctrlSlot : (s.setStat v).ctrlSlot = s.ctrlSlot := rfl
@[simp] theorem State.setStat_cardSlot : (s.setStat v).cardSlot = s.cardSlot := rfl
@[simp] theorem State.setStat_tap : (s.setStat v).tap = s.tap := rfl
@[simp] theorem State.setStat_outputs : (s.setStat v).outputs = s.outputs := rfl
@[simp] theorem State.setStat_restoreFailed : (s.setStat v).restoreFailed = s.restoreFailed := rfl
@[simp] theorem State.setStat_params : (s.setStat v).params = s.params := rfl
@[simp] theorem State.setStat_pending : (s.setStat v).pending = s.pending := rfl
@[simp] theorem State.setStat_returned : (s.setStat v).returned = s.returned := rfl
@[simp] theorem State.setStat_draws : (s.setStat v).draws = s.draws := rfl

end Stat

section Mode
variable (v : BitVec 16)

@[simp] theorem State.setMode_ctrl : (s.setMode v).ctrl = s.ctrl := rfl
@[simp] theorem State.setMode_stat : (s.setMode v).stat = s.stat := rfl
@[simp] theorem State.setMode_mode : (s.setMode v).mode = v := rfl
@[simp] theorem State.setMode_baud : (s.setMode v).baud = s.baud := rfl
@[simp] theorem State.setMode_transmitBuffer : (s.setMode v).transmitBuffer = s.transmitBuffer := rfl
@[simp] theorem State.setMode_transmitFull : (s.setMode v).transmitFull = s.transmitFull := rfl
@[simp] theorem State.setMode_receiveBuffer : (s.setMode v).receiveBuffer = s.receiveBuffer := rfl
@[simp] theorem State.setMode_receiveFull : (s.setMode v).receiveFull = s.receiveFull := rfl
@[simp] theorem State.setMode_inFlight : (s.setMode v).inFlight = s.inFlight := rfl
@[simp] theorem State.setMode_busState : (s.setMode v).busState = s.busState := rfl
@[simp] theorem State.setMode_activeDevice : (s.setMode v).activeDevice = s.activeDevice := rfl
@[simp] theorem State.setMode_ev : (s.setMode v).ev = s.ev := rfl
@[simp] theorem State.setMode_now : (s.setMode v).now = s.now := rfl
@[simp] theorem State.setMode_ctrlSlot : (s.setMode v).ctrlSlot = s.ctrlSlot := rfl
@[simp] theorem State.setMode_cardSlot : (s.setMode v).cardSlot = s.cardSlot := rfl
@[simp] theorem State.setMode_tap : (s.setMode v).tap = s.tap := rfl
@[simp] theorem State.setMode_outputs : (s.setMode v).outputs = s.outputs := rfl
@[simp] theorem State.setMode_restoreFailed : (s.setMode v).restoreFailed = s.restoreFailed := rfl
@[simp] theorem State.setMode_params : (s.setMode v).params = s.params := rfl
@[simp] theorem State.setMode_pending : (s.setMode v).pending = s.pending := rfl
@[simp] theorem State.setMode_returned : (s.setMode v).returned = s.returned := rfl
@[simp] theorem State.setMode_draws : (s.setMode v).draws = s.draws := rfl

end Mode

section Baud
variable (v : BitVec 16)

@[simp] theorem State.setBaud_ctrl : (s.setBaud v).ctrl = s.ctrl := rfl
@[simp] theorem State.setBaud_stat : (s.setBaud v).stat = s.stat := rfl
@[simp] theorem State.setBaud_mode : (s.setBaud v).mode = s.mode := rfl
@[simp] theorem State.setBaud_baud : (s.setBaud v).baud = v := rfl
@[simp] theorem State.setBaud_transmitBuffer : (s.setBaud v).transmitBuffer = s.transmitBuffer := rfl
@[simp] theorem State.setBaud_transmitFull : (s.setBaud v).transmitFull = s.transmitFull := rfl
@[simp] theorem State.setBaud_receiveBuffer : (s.setBaud v).receiveBuffer = s.receiveBuffer := rfl
@[simp] theorem State.setBaud_receiveFull : (s.setBaud v).receiveFull = s.receiveFull := rfl
@[simp] theorem State.setBaud_inFlight : (s.setBaud v).inFlight = s.inFlight := rfl
@[simp] theorem State.setBaud_busState : (s.setBaud v).busState = s.busState := rfl
@[simp] theorem State.setBaud_activeDevice : (s.setBaud v).activeDevice = s.activeDevice := rfl
@[simp] theorem State.setBaud_ev : (s.setBaud v).ev = s.ev := rfl
@[simp] theorem State.setBaud_now : (s.setBaud v).now = s.now := rfl
@[simp] theorem State.setBaud_ctrlSlot : (s.setBaud v).ctrlSlot = s.ctrlSlot := rfl
@[simp] theorem State.setBaud_cardSlot : (s.setBaud v).cardSlot = s.cardSlot := rfl
@[simp] theorem State.setBaud_tap : (s.setBaud v).tap = s.tap := rfl
@[simp] theorem State.setBaud_outputs : (s.setBaud v).outputs = s.outputs := rfl
@[simp] theorem State.setBaud_restoreFailed : (s.setBaud v).restoreFailed = s.restoreFailed := rfl
@[simp] theorem State.setBaud_params : (s.setBaud v).params = s.params := rfl
@[simp] theorem State.setBaud_pending : (s.setBaud v).pending = s.pending := rfl
@[simp] theorem State.setBaud_returned : (s.setBaud v).returned = s.returned := rfl
@[simp] theorem State.setBaud_draws : (s.setBaud v).draws = s.draws := rfl

end Baud

section TransmitBuffer
variable (v : Byte)

@[simp] theorem State.setTransmitBuffer_ctrl : (s.setTransmitBuffer v).ctrl = s.ctrl := rfl
@[simp] theorem State.setTransmitBuffer_stat : (s.setTransmitBuffer v).stat = s.stat := rfl
@[simp] theorem State.setTransmitBuffer_mode : (s.setTransmitBuffer v).mode = s.mode := rfl
@[simp] theorem State.setTransmitBuffer_baud : (s.setTransmitBuffer v).baud = s.baud := rfl
@[simp] theorem State.setTransmitBuffer_transmitBuffer : (s.setTransmitBuffer v).transmitBuffer = v := rfl
@[simp] theorem State.setTransmitBuffer_transmitFull : (s.setTransmitBuffer v).transmitFull = s.transmitFull := rfl
@[simp] theorem State.setTransmitBuffer_receiveBuffer : (s.setTransmitBuffer v).receiveBuffer = s.receiveBuffer := rfl
@[simp] theorem State.setTransmitBuffer_receiveFull : (s.setTransmitBuffer v).receiveFull = s.receiveFull := rfl
@[simp] theorem State.setTransmitBuffer_inFlight : (s.setTransmitBuffer v).inFlight = s.inFlight := rfl
@[simp] theorem State.setTransmitBuffer_busState : (s.setTransmitBuffer v).busState = s.busState := rfl
@[simp] theorem State.setTransmitBuffer_activeDevice : (s.setTransmitBuffer v).activeDevice = s.activeDevice := rfl
@[simp] theorem State.setTransmitBuffer_ev : (s.setTransmitBuffer v).ev = s.ev := rfl
@[simp] theorem State.setTransmitBuffer_now : (s.setTransmitBuffer v).now = s.now := rfl
@[simp] theorem State.setTransmitBuffer_ctrlSlot : (s.setTransmitBuffer v).ctrlSlot = s.ctrlSlot := rfl
@[simp] theorem State.setTransmitBuffer_cardSlot : (s.setTransmitBuffer v).cardSlot = s.cardSlot := rfl
@[simp] theorem State.setTransmitBuffer_tap : (s.setTransmitBuffer v).tap = s.tap := rfl
@[simp] theorem State.setTransmitBuffer_outputs : (s.setTransmitBuffer v).outputs = s.outputs := rfl
@[simp] theorem State.setTransmitBuffer_restoreFailed : (s.setTransmitBuffer v).restoreFailed = s.restoreFailed := rfl
@[simp] theorem State.setTransmitBuffer_params : (s.setTransmitBuffer v).params = s.params := rfl
@[simp] theorem State.setTransmitBuffer_pending : (s.setTransmitBuffer v).pending = s.pending := rfl
@[simp] theorem State.setTransmitBuffer_returned : (s.setTransmitBuffer v).returned = s.returned := rfl
@[simp] theorem State.setTransmitBuffer_draws : (s.setTransmitBuffer v).draws = s.draws := rfl

end TransmitBuffer

section TransmitFull
variable (v : Bool)

@[simp] theorem State.setTransmitFull_ctrl : (s.setTransmitFull v).ctrl = s.ctrl := rfl
@[simp] theorem State.setTransmitFull_stat : (s.setTransmitFull v).stat = s.stat := rfl
@[simp] theorem State.setTransmitFull_mode : (s.setTransmitFull v).mode = s.mode := rfl
@[simp] theorem State.setTransmitFull_baud : (s.setTransmitFull v).baud = s.baud := rfl
@[simp] theorem State.setTransmitFull_transmitBuffer : (s.setTransmitFull v).transmitBuffer = s.transmitBuffer := rfl
@[simp] theorem State.setTransmitFull_transmitFull : (s.setTransmitFull v).transmitFull = v := rfl
@[simp] theorem State.setTransmitFull_receiveBuffer : (s.setTransmitFull v).receiveBuffer = s.receiveBuffer := rfl
@[simp] theorem State.setTransmitFull_receiveFull : (s.setTransmitFull v).receiveFull = s.receiveFull := rfl
@[simp] theorem State.setTransmitFull_inFlight : (s.setTransmitFull v).inFlight = s.inFlight := rfl
@[simp] theorem State.setTransmitFull_busState : (s.setTransmitFull v).busState = s.busState := rfl
@[simp] theorem State.setTransmitFull_activeDevice : (s.setTransmitFull v).activeDevice = s.activeDevice := rfl
@[simp] theorem State.setTransmitFull_ev : (s.setTransmitFull v).ev = s.ev := rfl
@[simp] theorem State.setTransmitFull_now : (s.setTransmitFull v).now = s.now := rfl
@[simp] theorem State.setTransmitFull_ctrlSlot : (s.setTransmitFull v).ctrlSlot = s.ctrlSlot := rfl
@[simp] theorem State.setTransmitFull_cardSlot : (s.setTransmitFull v).cardSlot = s.cardSlot := rfl
@[simp] theorem State.setTransmitFull_tap : (s.setTransmitFull v).tap = s.tap := rfl
@[simp] theorem State.setTransmitFull_outputs : (s.setTransmitFull v).outputs = s.outputs := rfl
@[simp] theorem State.setTransmitFull_restoreFailed : (s.setTransmitFull v).restoreFailed = s.restoreFailed := rfl
@[simp] theorem State.setTransmitFull_params : (s.setTransmitFull v).params = s.params := rfl
@[simp] theorem State.setTransmitFull_pending : (s.setTransmitFull v).pending = s.pending := rfl
@[simp] theorem State.setTransmitFull_returned : (s.setTransmitFull v).returned = s.returned := rfl
@[simp] theorem State.setTransmitFull_draws : (s.setTransmitFull v).draws = s.draws := rfl

end TransmitFull

section ReceiveBuffer
variable (v : Byte)

@[simp] theorem State.setReceiveBuffer_ctrl : (s.setReceiveBuffer v).ctrl = s.ctrl := rfl
@[simp] theorem State.setReceiveBuffer_stat : (s.setReceiveBuffer v).stat = s.stat := rfl
@[simp] theorem State.setReceiveBuffer_mode : (s.setReceiveBuffer v).mode = s.mode := rfl
@[simp] theorem State.setReceiveBuffer_baud : (s.setReceiveBuffer v).baud = s.baud := rfl
@[simp] theorem State.setReceiveBuffer_transmitBuffer : (s.setReceiveBuffer v).transmitBuffer = s.transmitBuffer := rfl
@[simp] theorem State.setReceiveBuffer_transmitFull : (s.setReceiveBuffer v).transmitFull = s.transmitFull := rfl
@[simp] theorem State.setReceiveBuffer_receiveBuffer : (s.setReceiveBuffer v).receiveBuffer = v := rfl
@[simp] theorem State.setReceiveBuffer_receiveFull : (s.setReceiveBuffer v).receiveFull = s.receiveFull := rfl
@[simp] theorem State.setReceiveBuffer_inFlight : (s.setReceiveBuffer v).inFlight = s.inFlight := rfl
@[simp] theorem State.setReceiveBuffer_busState : (s.setReceiveBuffer v).busState = s.busState := rfl
@[simp] theorem State.setReceiveBuffer_activeDevice : (s.setReceiveBuffer v).activeDevice = s.activeDevice := rfl
@[simp] theorem State.setReceiveBuffer_ev : (s.setReceiveBuffer v).ev = s.ev := rfl
@[simp] theorem State.setReceiveBuffer_now : (s.setReceiveBuffer v).now = s.now := rfl
@[simp] theorem State.setReceiveBuffer_ctrlSlot : (s.setReceiveBuffer v).ctrlSlot = s.ctrlSlot := rfl
@[simp] theorem State.setReceiveBuffer_cardSlot : (s.setReceiveBuffer v).cardSlot = s.cardSlot := rfl
@[simp] theorem State.setReceiveBuffer_tap : (s.setReceiveBuffer v).tap = s.tap := rfl
@[simp] theorem State.setReceiveBuffer_outputs : (s.setReceiveBuffer v).outputs = s.outputs := rfl
@[simp] theorem State.setReceiveBuffer_restoreFailed : (s.setReceiveBuffer v).restoreFailed = s.restoreFailed := rfl
@[simp] theorem State.setReceiveBuffer_params : (s.setReceiveBuffer v).params = s.params := rfl
@[simp] theorem State.setReceiveBuffer_pending : (s.setReceiveBuffer v).pending = s.pending := rfl
@[simp] theorem State.setReceiveBuffer_returned : (s.setReceiveBuffer v).returned = s.returned := rfl
@[simp] theorem State.setReceiveBuffer_draws : (s.setReceiveBuffer v).draws = s.draws := rfl

end ReceiveBuffer

section ReceiveFull
variable (v : Bool)

@[simp] theorem State.setReceiveFull_ctrl : (s.setReceiveFull v).ctrl = s.ctrl := rfl
@[simp] theorem State.setReceiveFull_stat : (s.setReceiveFull v).stat = s.stat := rfl
@[simp] theorem State.setReceiveFull_mode : (s.setReceiveFull v).mode = s.mode := rfl
@[simp] theorem State.setReceiveFull_baud : (s.setReceiveFull v).baud = s.baud := rfl
@[simp] theorem State.setReceiveFull_transmitBuffer : (s.setReceiveFull v).transmitBuffer = s.transmitBuffer := rfl
@[simp] theorem State.setReceiveFull_transmitFull : (s.setReceiveFull v).transmitFull = s.transmitFull := rfl
@[simp] theorem State.setReceiveFull_receiveBuffer : (s.setReceiveFull v).receiveBuffer = s.receiveBuffer := rfl
@[simp] theorem State.setReceiveFull_receiveFull : (s.setReceiveFull v).receiveFull = v := rfl
@[simp] theorem State.setReceiveFull_inFlight : (s.setReceiveFull v).inFlight = s.inFlight := rfl
@[simp] theorem State.setReceiveFull_busState : (s.setReceiveFull v).busState = s.busState := rfl
@[simp] theorem State.setReceiveFull_activeDevice : (s.setReceiveFull v).activeDevice = s.activeDevice := rfl
@[simp] theorem State.setReceiveFull_ev : (s.setReceiveFull v).ev = s.ev := rfl
@[simp] theorem State.setReceiveFull_now : (s.setReceiveFull v).now = s.now := rfl
@[simp] theorem State.setReceiveFull_ctrlSlot : (s.setReceiveFull v).ctrlSlot = s.ctrlSlot := rfl
@[simp] theorem State.setReceiveFull_cardSlot : (s.setReceiveFull v).cardSlot = s.cardSlot := rfl
@[simp] theorem State.setReceiveFull_tap : (s.setReceiveFull v).tap = s.tap := rfl
@[simp] theorem State.setReceiveFull_outputs : (s.setReceiveFull v).outputs = s.outputs := rfl
@[simp] theorem State.setReceiveFull_restoreFailed : (s.setReceiveFull v).restoreFailed = s.restoreFailed := rfl
@[simp] theorem State.setReceiveFull_params : (s.setReceiveFull v).params = s.params := rfl
@[simp] theorem State.setReceiveFull_pending : (s.setReceiveFull v).pending = s.pending := rfl
@[simp] theorem State.setReceiveFull_returned : (s.setReceiveFull v).returned = s.returned := rfl
@[simp] theorem State.setReceiveFull_draws : (s.setReceiveFull v).draws = s.draws := rfl

end ReceiveFull

section InFlight
variable (v : Byte)

@[simp] theorem State.setInFlight_ctrl : (s.setInFlight v).ctrl = s.ctrl := rfl
@[simp] theorem State.setInFlight_stat : (s.setInFlight v).stat = s.stat := rfl
@[simp] theorem State.setInFlight_mode : (s.setInFlight v).mode = s.mode := rfl
@[simp] theorem State.setInFlight_baud : (s.setInFlight v).baud = s.baud := rfl
@[simp] theorem State.setInFlight_transmitBuffer : (s.setInFlight v).transmitBuffer = s.transmitBuffer := rfl
@[simp] theorem State.setInFlight_transmitFull : (s.setInFlight v).transmitFull = s.transmitFull := rfl
@[simp] theorem State.setInFlight_receiveBuffer : (s.setInFlight v).receiveBuffer = s.receiveBuffer := rfl
@[simp] theorem State.setInFlight_receiveFull : (s.setInFlight v).receiveFull = s.receiveFull := rfl
@[simp] theorem State.setInFlight_inFlight : (s.setInFlight v).inFlight = v := rfl
@[simp] theorem State.setInFlight_busState : (s.setInFlight v).busState = s.busState := rfl
@[simp] theorem State.setInFlight_activeDevice : (s.setInFlight v).activeDevice = s.activeDevice := rfl
@[simp] theorem State.setInFlight_ev : (s.setInFlight v).ev = s.ev := rfl
@[simp] theorem State.setInFlight_now : (s.setInFlight v).now = s.now := rfl
@[simp] theorem State.setInFlight_ctrlSlot : (s.setInFlight v).ctrlSlot = s.ctrlSlot := rfl
@[simp] theorem State.setInFlight_cardSlot : (s.setInFlight v).cardSlot = s.cardSlot := rfl
@[simp] theorem State.setInFlight_tap : (s.setInFlight v).tap = s.tap := rfl
@[simp] theorem State.setInFlight_outputs : (s.setInFlight v).outputs = s.outputs := rfl
@[simp] theorem State.setInFlight_restoreFailed : (s.setInFlight v).restoreFailed = s.restoreFailed := rfl
@[simp] theorem State.setInFlight_params : (s.setInFlight v).params = s.params := rfl
@[simp] theorem State.setInFlight_pending : (s.setInFlight v).pending = s.pending := rfl
@[simp] theorem State.setInFlight_returned : (s.setInFlight v).returned = s.returned := rfl
@[simp] theorem State.setInFlight_draws : (s.setInFlight v).draws = s.draws := rfl

end InFlight

section BusState
variable (v : BusState)

@[simp] theorem State.setBusState_ctrl : (s.setBusState v).ctrl = s.ctrl := rfl
@[simp] theorem State.setBusState_stat : (s.setBusState v).stat = s.stat := rfl
@[simp] theorem State.setBusState_mode : (s.setBusState v).mode = s.mode := rfl
@[simp] theorem State.setBusState_baud : (s.setBusState v).baud = s.baud := rfl
@[simp] theorem State.setBusState_transmitBuffer : (s.setBusState v).transmitBuffer = s.transmitBuffer := rfl
@[simp] theorem State.setBusState_transmitFull : (s.setBusState v).transmitFull = s.transmitFull := rfl
@[simp] theorem State.setBusState_receiveBuffer : (s.setBusState v).receiveBuffer = s.receiveBuffer := rfl
@[simp] theorem State.setBusState_receiveFull : (s.setBusState v).receiveFull = s.receiveFull := rfl
@[simp] theorem State.setBusState_inFlight : (s.setBusState v).inFlight = s.inFlight := rfl
@[simp] theorem State.setBusState_busState : (s.setBusState v).busState = v := rfl
@[simp] theorem State.setBusState_activeDevice : (s.setBusState v).activeDevice = s.activeDevice := rfl
@[simp] theorem State.setBusState_ev : (s.setBusState v).ev = s.ev := rfl
@[simp] theorem State.setBusState_now : (s.setBusState v).now = s.now := rfl
@[simp] theorem State.setBusState_ctrlSlot : (s.setBusState v).ctrlSlot = s.ctrlSlot := rfl
@[simp] theorem State.setBusState_cardSlot : (s.setBusState v).cardSlot = s.cardSlot := rfl
@[simp] theorem State.setBusState_tap : (s.setBusState v).tap = s.tap := rfl
@[simp] theorem State.setBusState_outputs : (s.setBusState v).outputs = s.outputs := rfl
@[simp] theorem State.setBusState_restoreFailed : (s.setBusState v).restoreFailed = s.restoreFailed := rfl
@[simp] theorem State.setBusState_params : (s.setBusState v).params = s.params := rfl
@[simp] theorem State.setBusState_pending : (s.setBusState v).pending = s.pending := rfl
@[simp] theorem State.setBusState_returned : (s.setBusState v).returned = s.returned := rfl
@[simp] theorem State.setBusState_draws : (s.setBusState v).draws = s.draws := rfl

end BusState

section ActiveDevice
variable (v : ActiveDevice)

@[simp] theorem State.setActiveDevice_ctrl : (s.setActiveDevice v).ctrl = s.ctrl := rfl
@[simp] theorem State.setActiveDevice_stat : (s.setActiveDevice v).stat = s.stat := rfl
@[simp] theorem State.setActiveDevice_mode : (s.setActiveDevice v).mode = s.mode := rfl
@[simp] theorem State.setActiveDevice_baud : (s.setActiveDevice v).baud = s.baud := rfl
@[simp] theorem State.setActiveDevice_transmitBuffer : (s.setActiveDevice v).transmitBuffer = s.transmitBuffer := rfl
@[simp] theorem State.setActiveDevice_transmitFull : (s.setActiveDevice v).transmitFull = s.transmitFull := rfl
@[simp] theorem State.setActiveDevice_receiveBuffer : (s.setActiveDevice v).receiveBuffer = s.receiveBuffer := rfl
@[simp] theorem State.setActiveDevice_receiveFull : (s.setActiveDevice v).receiveFull = s.receiveFull := rfl
@[simp] theorem State.setActiveDevice_inFlight : (s.setActiveDevice v).inFlight = s.inFlight := rfl
@[simp] theorem State.setActiveDevice_busState : (s.setActiveDevice v).busState = s.busState := rfl
@[simp] theorem State.setActiveDevice_activeDevice : (s.setActiveDevice v).activeDevice = v := rfl
@[simp] theorem State.setActiveDevice_ev : (s.setActiveDevice v).ev = s.ev := rfl
@[simp] theorem State.setActiveDevice_now : (s.setActiveDevice v).now = s.now := rfl
@[simp] theorem State.setActiveDevice_ctrlSlot : (s.setActiveDevice v).ctrlSlot = s.ctrlSlot := rfl
@[simp] theorem State.setActiveDevice_cardSlot : (s.setActiveDevice v).cardSlot = s.cardSlot := rfl
@[simp] theorem State.setActiveDevice_tap : (s.setActiveDevice v).tap = s.tap := rfl
@[simp] theorem State.setActiveDevice_outputs : (s.setActiveDevice v).outputs = s.outputs := rfl
@[simp] theorem State.setActiveDevice_restoreFailed : (s.setActiveDevice v).restoreFailed = s.restoreFailed := rfl
@[simp] theorem State.setActiveDevice_params : (s.setActiveDevice v).params = s.params := rfl
@[simp] theorem State.setActiveDevice_pending : (s.setActiveDevice v).pending = s.pending := rfl
@[simp] theorem State.setActiveDevice_returned : (s.setActiveDevice v).returned = s.returned := rfl
@[simp] theorem State.setActiveDevice_draws : (s.setActiveDevice v).draws = s.draws := rfl

end ActiveDevice

section Ev
variable (v : Event)

@[simp] theorem State.setEv_ctrl : (s.setEv v).ctrl = s.ctrl := rfl
@[simp] theorem State.setEv_stat : (s.setEv v).stat = s.stat := rfl
@[simp] theorem State.setEv_mode : (s.setEv v).mode = s.mode := rfl
@[simp] theorem State.setEv_baud : (s.setEv v).baud = s.baud := rfl
@[simp] theorem State.setEv_transmitBuffer : (s.setEv v).transmitBuffer = s.transmitBuffer := rfl
@[simp] theorem State.setEv_transmitFull : (s.setEv v).transmitFull = s.transmitFull := rfl
@[simp] theorem State.setEv_receiveBuffer : (s.setEv v).receiveBuffer = s.receiveBuffer := rfl
@[simp] theorem State.setEv_receiveFull : (s.setEv v).receiveFull = s.receiveFull := rfl
@[simp] theorem State.setEv_inFlight : (s.setEv v).inFlight = s.inFlight := rfl
@[simp] theorem State.setEv_busState : (s.setEv v).busState = s.busState := rfl
@[simp] theorem State.setEv_activeDevice : (s.setEv v).activeDevice = s.activeDevice := rfl
@[simp] theorem State.setEv_ev : (s.setEv v).ev = v := rfl
@[simp] theorem State.setEv_now : (s.setEv v).now = s.now := rfl
@[simp] theorem State.setEv_ctrlSlot : (s.setEv v).ctrlSlot = s.ctrlSlot := rfl
@[simp] theorem State.setEv_cardSlot : (s.setEv v).cardSlot = s.cardSlot := rfl
@[simp] theorem State.setEv_tap : (s.setEv v).tap = s.tap := rfl
@[simp] theorem State.setEv_outputs : (s.setEv v).outputs = s.outputs := rfl
@[simp] theorem State.setEv_restoreFailed : (s.setEv v).restoreFailed = s.restoreFailed := rfl
@[simp] theorem State.setEv_params : (s.setEv v).params = s.params := rfl
@[simp] theorem State.setEv_pending : (s.setEv v).pending = s.pending := rfl
@[simp] theorem State.setEv_returned : (s.setEv v).returned = s.returned := rfl
@[simp] theorem State.setEv_draws : (s.setEv v).draws = s.draws := rfl

end Ev

section Now
variable (v : Nat)

@[simp] theorem State.setNow_ctrl : (s.setNow v).ctrl = s.ctrl := rfl
@[simp] theorem State.setNow_stat : (s.setNow v).stat = s.stat := rfl
@[simp] theorem State.setNow_mode : (s.setNow v).mode = s.mode := rfl
@[simp] theorem State.setNow_baud : (s.setNow v).baud = s.baud := rfl
@[simp] theorem State.setNow_transmitBuffer : (s.setNow v).transmitBuffer = s.transmitBuffer := rfl
@[simp] theorem State.setNow_transmitFull : (s.setNow v).transmitFull = s.transmitFull := rfl
@[simp] theorem State.setNow_receiveBuffer : (s.setNow v).receiveBuffer = s.receiveBuffer := rfl
@[simp] theorem State.setNow_receiveFull : (s.setNow v).receiveFull = s.receiveFull := rfl
@[simp] theorem State.setNow_inFlight : (s.setNow v).inFlight = s.inFlight := rfl
@[simp] theorem State.setNow_busState : (s.setNow v).busState = s.busState := rfl
@[simp] theorem State.setNow_activeDevice : (s.setNow v).activeDevice = s.activeDevice := rfl
@[simp] theorem State.setNow_ev : (s.setNow v).ev = s.ev := rfl
@[simp] theorem State.setNow_now : (s.setNow v).now = v := rfl
@[simp] theorem State.setNow_ctrlSlot : (s.setNow v).ctrlSlot = s.ctrlSlot := rfl
@[simp] theorem State.setNow_cardSlot : (s.setNow v).cardSlot = s.cardSlot := rfl
@[simp] theorem State.setNow_tap : (s.setNow v).tap = s.tap := rfl
@[simp] theorem State.setNow_outputs : (s.setNow v).outputs = s.outputs := rfl
@[simp] theorem State.setNow_restoreFailed : (s.setNow v).restoreFailed = s.restoreFailed := rfl
@[simp] theorem State.setNow_params : (s.setNow v).params = s.params := rfl
@[simp] theorem State.setNow_pending : (s.setNow v).pending = s.pending := rfl
@[simp] theorem State.setNow_returned : (s.setNow v).returned = s.returned := rfl
@[simp] theorem State.setNow_draws : (s.setNow v).draws = s.draws := rfl

end Now

section CtrlSlot
variable (v : Vector (Option Controller) 8)

@[simp] theorem State.setCtrlSlot_ctrl : (s.setCtrlSlot v).ctrl = s.ctrl := rfl
@[simp] theorem State.setCtrlSlot_stat : (s.setCtrlSlot v).stat = s.stat := rfl
@[simp] theorem State.setCtrlSlot_mode : (s.setCtrlSlot v).mode = s.mode := rfl
@[simp] theorem State.setCtrlSlot_baud : (s.setCtrlSlot v).baud = s.baud := rfl
@[simp] theorem State.setCtrlSlot_transmitBuffer : (s.setCtrlSlot v).transmitBuffer = s.transmitBuffer := rfl
@[simp] theorem State.setCtrlSlot_transmitFull : (s.setCtrlSlot v).transmitFull = s.transmitFull := rfl
@[simp] theorem State.setCtrlSlot_receiveBuffer : (s.setCtrlSlot v).receiveBuffer = s.receiveBuffer := rfl
@[simp] theorem State.setCtrlSlot_receiveFull : (s.setCtrlSlot v).receiveFull = s.receiveFull := rfl
@[simp] theorem State.setCtrlSlot_inFlight : (s.setCtrlSlot v).inFlight = s.inFlight := rfl
@[simp] theorem State.setCtrlSlot_busState : (s.setCtrlSlot v).busState = s.busState := rfl
@[simp] theorem State.setCtrlSlot_activeDevice : (s.setCtrlSlot v).activeDevice = s.activeDevice := rfl
@[simp] theorem State.setCtrlSlot_ev : (s.setCtrlSlot v).ev = s.ev := rfl
@[simp] theorem State.setCtrlSlot_now : (s.setCtrlSlot v).now = s.now := rfl
@[simp] theorem State.setCtrlSlot_ctrlSlot : (s.setCtrlSlot v).ctrlSlot = v := rfl
@[simp] theorem State.setCtrlSlot_cardSlot : (s.setCtrlSlot v).cardSlot = s.cardSlot := rfl
@[simp] theorem State.setCtrlSlot_tap : (s.setCtrlSlot v).tap = s.tap := rfl
@[simp] theorem State.setCtrlSlot_outputs : (s.setCtrlSlot v).outputs = s.outputs := rfl
@[simp] theorem State.setCtrlSlot_restoreFailed : (s.setCtrlSlot v).restoreFailed = s.restoreFailed := rfl
@[simp] theorem State.setCtrlSlot_params : (s.setCtrlSlot v).params = s.params := rfl
@[simp] theorem State.setCtrlSlot_pending : (s.setCtrlSlot v).pending = s.pending := rfl
@[simp] theorem State.setCtrlSlot_returned : (s.setCtrlSlot v).returned = s.returned := rfl
@[simp] theorem State.setCtrlSlot_draws : (s.setCtrlSlot v).draws = s.draws := rfl

end CtrlSlot

section CardSlot
variable (v : Vector (Option Card) 8)

@[simp] theorem State.setCardSlot_ctrl : (s.setCardSlot v).ctrl = s.ctrl := rfl
@[simp] theorem State.setCardSlot_stat : (s.setCardSlot v).stat = s.stat := rfl
@[simp] theorem State.setCardSlot_mode : (s.setCardSlot v).mode = s.mode := rfl
@[simp] theorem State.setCardSlot_baud : (s.setCardSlot v).baud = s.baud := rfl
@[simp] theorem State.setCardSlot_transmitBuffer : (s.setCardSlot v).transmitBuffer = s.transmitBuffer := rfl
@[simp] theorem State.setCardSlot_transmitFull : (s.setCardSlot v).transmitFull = s.transmitFull := rfl
@[simp] theorem State.setCardSlot_receiveBuffer : (s.setCardSlot v).receiveBuffer = s.receiveBuffer := rfl
@[simp] theorem State.setCardSlot_receiveFull : (s.setCardSlot v).receiveFull = s.receiveFull := rfl
@[simp] theorem State.setCardSlot_inFlight : (s.setCardSlot v).inFlight = s.inFlight := rfl
@[simp] theorem State.setCardSlot_busState : (s.setCardSlot v).busState = s.busState := rfl
@[simp] theorem State.setCardSlot_activeDevice : (s.setCardSlot v).activeDevice = s.activeDevice := rfl
@[simp] theorem State.setCardSlot_ev : (s.setCardSlot v).ev = s.ev := rfl
@[simp] theorem State.setCardSlot_now : (s.setCardSlot v).now = s.now := rfl
@[simp] theorem State.setCardSlot_ctrlSlot : (s.setCardSlot v).ctrlSlot = s.ctrlSlot := rfl
@[simp] theorem State.setCardSlot_cardSlot : (s.setCardSlot v).cardSlot = v := rfl
@[simp] theorem State.setCardSlot_tap : (s.setCardSlot v).tap = s.tap := rfl
@[simp] theorem State.setCardSlot_outputs : (s.setCardSlot v).outputs = s.outputs := rfl
@[simp] theorem State.setCardSlot_restoreFailed : (s.setCardSlot v).restoreFailed = s.restoreFailed := rfl
@[simp] theorem State.setCardSlot_params : (s.setCardSlot v).params = s.params := rfl
@[simp] theorem State.setCardSlot_pending : (s.setCardSlot v).pending = s.pending := rfl
@[simp] theorem State.setCardSlot_returned : (s.setCardSlot v).returned = s.returned := rfl
@[simp] theorem State.setCardSlot_draws : (s.setCardSlot v).draws = s.draws := rfl

end CardSlot

section Tap
variable (v : Vector (Option Tap) 2)

@[simp] theorem State.setTap_ctrl : (s.setTap v).ctrl = s.ctrl := rfl
@[simp] theorem State.setTap_stat : (s.setTap v).stat = s.stat := rfl
@[simp] theorem State.setTap_mode : (s.setTap v).mode = s.mode := rfl
@[simp] theorem State.setTap_baud : (s.setTap v).baud = s.baud := rfl
@[simp] theorem State.setTap_transmitBuffer : (s.setTap v).transmitBuffer = s.transmitBuffer := rfl
@[simp] theorem State.setTap_transmitFull : (s.setTap v).transmitFull = s.transmitFull := rfl
@[simp] theorem State.setTap_receiveBuffer : (s.setTap v).receiveBuffer = s.receiveBuffer := rfl
@[simp] theorem State.setTap_receiveFull : (s.setTap v).receiveFull = s.receiveFull := rfl
@[simp] theorem State.setTap_inFlight : (s.setTap v).inFlight = s.inFlight := rfl
@[simp] theorem State.setTap_busState : (s.setTap v).busState = s.busState := rfl
@[simp] theorem State.setTap_activeDevice : (s.setTap v).activeDevice = s.activeDevice := rfl
@[simp] theorem State.setTap_ev : (s.setTap v).ev = s.ev := rfl
@[simp] theorem State.setTap_now : (s.setTap v).now = s.now := rfl
@[simp] theorem State.setTap_ctrlSlot : (s.setTap v).ctrlSlot = s.ctrlSlot := rfl
@[simp] theorem State.setTap_cardSlot : (s.setTap v).cardSlot = s.cardSlot := rfl
@[simp] theorem State.setTap_tap : (s.setTap v).tap = v := rfl
@[simp] theorem State.setTap_outputs : (s.setTap v).outputs = s.outputs := rfl
@[simp] theorem State.setTap_restoreFailed : (s.setTap v).restoreFailed = s.restoreFailed := rfl
@[simp] theorem State.setTap_params : (s.setTap v).params = s.params := rfl
@[simp] theorem State.setTap_pending : (s.setTap v).pending = s.pending := rfl
@[simp] theorem State.setTap_returned : (s.setTap v).returned = s.returned := rfl
@[simp] theorem State.setTap_draws : (s.setTap v).draws = s.draws := rfl

end Tap

section Outputs
variable (v : List OutEvent)

@[simp] theorem State.setOutputs_ctrl : (s.setOutputs v).ctrl = s.ctrl := rfl
@[simp] theorem State.setOutputs_stat : (s.setOutputs v).stat = s.stat := rfl
@[simp] theorem State.setOutputs_mode : (s.setOutputs v).mode = s.mode := rfl
@[simp] theorem State.setOutputs_baud : (s.setOutputs v).baud = s.baud := rfl
@[simp] theorem State.setOutputs_transmitBuffer : (s.setOutputs v).transmitBuffer = s.transmitBuffer := rfl
@[simp] theorem State.setOutputs_transmitFull : (s.setOutputs v).transmitFull = s.transmitFull := rfl
@[simp] theorem State.setOutputs_receiveBuffer : (s.setOutputs v).receiveBuffer = s.receiveBuffer := rfl
@[simp] theorem State.setOutputs_receiveFull : (s.setOutputs v).receiveFull = s.receiveFull := rfl
@[simp] theorem State.setOutputs_inFlight : (s.setOutputs v).inFlight = s.inFlight := rfl
@[simp] theorem State.setOutputs_busState : (s.setOutputs v).busState = s.busState := rfl
@[simp] theorem State.setOutputs_activeDevice : (s.setOutputs v).activeDevice = s.activeDevice := rfl
@[simp] theorem State.setOutputs_ev : (s.setOutputs v).ev = s.ev := rfl
@[simp] theorem State.setOutputs_now : (s.setOutputs v).now = s.now := rfl
@[simp] theorem State.setOutputs_ctrlSlot : (s.setOutputs v).ctrlSlot = s.ctrlSlot := rfl
@[simp] theorem State.setOutputs_cardSlot : (s.setOutputs v).cardSlot = s.cardSlot := rfl
@[simp] theorem State.setOutputs_tap : (s.setOutputs v).tap = s.tap := rfl
@[simp] theorem State.setOutputs_outputs : (s.setOutputs v).outputs = v := rfl
@[simp] theorem State.setOutputs_restoreFailed : (s.setOutputs v).restoreFailed = s.restoreFailed := rfl
@[simp] theorem State.setOutputs_params : (s.setOutputs v).params = s.params := rfl
@[simp] theorem State.setOutputs_pending : (s.setOutputs v).pending = s.pending := rfl
@[simp] theorem State.setOutputs_returned : (s.setOutputs v).returned = s.returned := rfl
@[simp] theorem State.setOutputs_draws : (s.setOutputs v).draws = s.draws := rfl

end Outputs

section RestoreFailed
variable (v : Bool)

@[simp] theorem State.setRestoreFailed_ctrl : (s.setRestoreFailed v).ctrl = s.ctrl := rfl
@[simp] theorem State.setRestoreFailed_stat : (s.setRestoreFailed v).stat = s.stat := rfl
@[simp] theorem State.setRestoreFailed_mode : (s.setRestoreFailed v).mode = s.mode := rfl
@[simp] theorem State.setRestoreFailed_baud : (s.setRestoreFailed v).baud = s.baud := rfl
@[simp] theorem State.setRestoreFailed_transmitBuffer : (s.setRestoreFailed v).transmitBuffer = s.transmitBuffer := rfl
@[simp] theorem State.setRestoreFailed_transmitFull : (s.setRestoreFailed v).transmitFull = s.transmitFull := rfl
@[simp] theorem State.setRestoreFailed_receiveBuffer : (s.setRestoreFailed v).receiveBuffer = s.receiveBuffer := rfl
@[simp] theorem State.setRestoreFailed_receiveFull : (s.setRestoreFailed v).receiveFull = s.receiveFull := rfl
@[simp] theorem State.setRestoreFailed_inFlight : (s.setRestoreFailed v).inFlight = s.inFlight := rfl
@[simp] theorem State.setRestoreFailed_busState : (s.setRestoreFailed v).busState = s.busState := rfl
@[simp] theorem State.setRestoreFailed_activeDevice : (s.setRestoreFailed v).activeDevice = s.activeDevice := rfl
@[simp] theorem State.setRestoreFailed_ev : (s.setRestoreFailed v).ev = s.ev := rfl
@[simp] theorem State.setRestoreFailed_now : (s.setRestoreFailed v).now = s.now := rfl
@[simp] theorem State.setRestoreFailed_ctrlSlot : (s.setRestoreFailed v).ctrlSlot = s.ctrlSlot := rfl
@[simp] theorem State.setRestoreFailed_cardSlot : (s.setRestoreFailed v).cardSlot = s.cardSlot := rfl
@[simp] theorem State.setRestoreFailed_tap : (s.setRestoreFailed v).tap = s.tap := rfl
@[simp] theorem State.setRestoreFailed_outputs : (s.setRestoreFailed v).outputs = s.outputs := rfl
@[simp] theorem State.setRestoreFailed_restoreFailed : (s.setRestoreFailed v).restoreFailed = v := rfl
@[simp] theorem State.setRestoreFailed_params : (s.setRestoreFailed v).params = s.params := rfl
@[simp] theorem State.setRestoreFailed_pending : (s.setRestoreFailed v).pending = s.pending := rfl
@[simp] theorem State.setRestoreFailed_returned : (s.setRestoreFailed v).returned = s.returned := rfl
@[simp] theorem State.setRestoreFailed_draws : (s.setRestoreFailed v).draws = s.draws := rfl

end RestoreFailed

section Pending
variable (v : List Op)

@[simp] theorem State.setPending_ctrl : (s.setPending v).ctrl = s.ctrl := rfl
@[simp] theorem State.setPending_stat : (s.setPending v).stat = s.stat := rfl
@[simp] theorem State.setPending_mode : (s.setPending v).mode = s.mode := rfl
@[simp] theorem State.setPending_baud : (s.setPending v).baud = s.baud := rfl
@[simp] theorem State.setPending_transmitBuffer : (s.setPending v).transmitBuffer = s.transmitBuffer := rfl
@[simp] theorem State.setPending_transmitFull : (s.setPending v).transmitFull = s.transmitFull := rfl
@[simp] theorem State.setPending_receiveBuffer : (s.setPending v).receiveBuffer = s.receiveBuffer := rfl
@[simp] theorem State.setPending_receiveFull : (s.setPending v).receiveFull = s.receiveFull := rfl
@[simp] theorem State.setPending_inFlight : (s.setPending v).inFlight = s.inFlight := rfl
@[simp] theorem State.setPending_busState : (s.setPending v).busState = s.busState := rfl
@[simp] theorem State.setPending_activeDevice : (s.setPending v).activeDevice = s.activeDevice := rfl
@[simp] theorem State.setPending_ev : (s.setPending v).ev = s.ev := rfl
@[simp] theorem State.setPending_now : (s.setPending v).now = s.now := rfl
@[simp] theorem State.setPending_ctrlSlot : (s.setPending v).ctrlSlot = s.ctrlSlot := rfl
@[simp] theorem State.setPending_cardSlot : (s.setPending v).cardSlot = s.cardSlot := rfl
@[simp] theorem State.setPending_tap : (s.setPending v).tap = s.tap := rfl
@[simp] theorem State.setPending_outputs : (s.setPending v).outputs = s.outputs := rfl
@[simp] theorem State.setPending_restoreFailed : (s.setPending v).restoreFailed = s.restoreFailed := rfl
@[simp] theorem State.setPending_params : (s.setPending v).params = s.params := rfl
@[simp] theorem State.setPending_pending : (s.setPending v).pending = v := rfl
@[simp] theorem State.setPending_returned : (s.setPending v).returned = s.returned := rfl
@[simp] theorem State.setPending_draws : (s.setPending v).draws = s.draws := rfl

end Pending

section Returned
variable (v : Option Returned)

@[simp] theorem State.setReturned_ctrl : (s.setReturned v).ctrl = s.ctrl := rfl
@[simp] theorem State.setReturned_stat : (s.setReturned v).stat = s.stat := rfl
@[simp] theorem State.setReturned_mode : (s.setReturned v).mode = s.mode := rfl
@[simp] theorem State.setReturned_baud : (s.setReturned v).baud = s.baud := rfl
@[simp] theorem State.setReturned_transmitBuffer : (s.setReturned v).transmitBuffer = s.transmitBuffer := rfl
@[simp] theorem State.setReturned_transmitFull : (s.setReturned v).transmitFull = s.transmitFull := rfl
@[simp] theorem State.setReturned_receiveBuffer : (s.setReturned v).receiveBuffer = s.receiveBuffer := rfl
@[simp] theorem State.setReturned_receiveFull : (s.setReturned v).receiveFull = s.receiveFull := rfl
@[simp] theorem State.setReturned_inFlight : (s.setReturned v).inFlight = s.inFlight := rfl
@[simp] theorem State.setReturned_busState : (s.setReturned v).busState = s.busState := rfl
@[simp] theorem State.setReturned_activeDevice : (s.setReturned v).activeDevice = s.activeDevice := rfl
@[simp] theorem State.setReturned_ev : (s.setReturned v).ev = s.ev := rfl
@[simp] theorem State.setReturned_now : (s.setReturned v).now = s.now := rfl
@[simp] theorem State.setReturned_ctrlSlot : (s.setReturned v).ctrlSlot = s.ctrlSlot := rfl
@[simp] theorem State.setReturned_cardSlot : (s.setReturned v).cardSlot = s.cardSlot := rfl
@[simp] theorem State.setReturned_tap : (s.setReturned v).tap = s.tap := rfl
@[simp] theorem State.setReturned_outputs : (s.setReturned v).outputs = s.outputs := rfl
@[simp] theorem State.setReturned_restoreFailed : (s.setReturned v).restoreFailed = s.restoreFailed := rfl
@[simp] theorem State.setReturned_params : (s.setReturned v).params = s.params := rfl
@[simp] theorem State.setReturned_pending : (s.setReturned v).pending = s.pending := rfl
@[simp] theorem State.setReturned_returned : (s.setReturned v).returned = v := rfl
@[simp] theorem State.setReturned_draws : (s.setReturned v).draws = s.draws := rfl

end Returned

section Draws
variable (v : Nat)

@[simp] theorem State.setDraws_ctrl : (s.setDraws v).ctrl = s.ctrl := rfl
@[simp] theorem State.setDraws_stat : (s.setDraws v).stat = s.stat := rfl
@[simp] theorem State.setDraws_mode : (s.setDraws v).mode = s.mode := rfl
@[simp] theorem State.setDraws_baud : (s.setDraws v).baud = s.baud := rfl
@[simp] theorem State.setDraws_transmitBuffer : (s.setDraws v).transmitBuffer = s.transmitBuffer := rfl
@[simp] theorem State.setDraws_transmitFull : (s.setDraws v).transmitFull = s.transmitFull := rfl
@[simp] theorem State.setDraws_receiveBuffer : (s.setDraws v).receiveBuffer = s.receiveBuffer := rfl
@[simp] theorem State.setDraws_receiveFull : (s.setDraws v).receiveFull = s.receiveFull := rfl
@[simp] theorem State.setDraws_inFlight : (s.setDraws v).inFlight = s.inFlight := rfl
@[simp] theorem State.setDraws_busState : (s.setDraws v).busState = s.busState := rfl
@[simp] theorem State.setDraws_activeDevice : (s.setDraws v).activeDevice = s.activeDevice := rfl
@[simp] theorem State.setDraws_ev : (s.setDraws v).ev = s.ev := rfl
@[simp] theorem State.setDraws_now : (s.setDraws v).now = s.now := rfl
@[simp] theorem State.setDraws_ctrlSlot : (s.setDraws v).ctrlSlot = s.ctrlSlot := rfl
@[simp] theorem State.setDraws_cardSlot : (s.setDraws v).cardSlot = s.cardSlot := rfl
@[simp] theorem State.setDraws_tap : (s.setDraws v).tap = s.tap := rfl
@[simp] theorem State.setDraws_outputs : (s.setDraws v).outputs = s.outputs := rfl
@[simp] theorem State.setDraws_restoreFailed : (s.setDraws v).restoreFailed = s.restoreFailed := rfl
@[simp] theorem State.setDraws_params : (s.setDraws v).params = s.params := rfl
@[simp] theorem State.setDraws_pending : (s.setDraws v).pending = s.pending := rfl
@[simp] theorem State.setDraws_returned : (s.setDraws v).returned = s.returned := rfl
@[simp] theorem State.setDraws_draws : (s.setDraws v).draws = v := rfl

end Draws

end Sys2Proof.Machine
end

