-- ==== Sys2Proof/Laws/Ops.lean ====
section
/-! SUPPORT. What each simple operation leaves and writes, field by field, true by `rfl`. -/

namespace Sys2Proof.Machine

variable (s : State)

/-! ### `updateStatus` -/

@[simp] theorem updateStatus_ctrl : (updateStatus s).ctrl = s.ctrl := rfl
@[simp] theorem updateStatus_stat : (updateStatus s).stat = recompute s.stat s.transmitFull s.receiveFull s.busState := rfl
@[simp] theorem updateStatus_mode : (updateStatus s).mode = s.mode := rfl
@[simp] theorem updateStatus_baud : (updateStatus s).baud = s.baud := rfl
@[simp] theorem updateStatus_transmitBuffer : (updateStatus s).transmitBuffer = s.transmitBuffer := rfl
@[simp] theorem updateStatus_transmitFull : (updateStatus s).transmitFull = s.transmitFull := rfl
@[simp] theorem updateStatus_receiveBuffer : (updateStatus s).receiveBuffer = s.receiveBuffer := rfl
@[simp] theorem updateStatus_receiveFull : (updateStatus s).receiveFull = s.receiveFull := rfl
@[simp] theorem updateStatus_inFlight : (updateStatus s).inFlight = s.inFlight := rfl
@[simp] theorem updateStatus_busState : (updateStatus s).busState = s.busState := rfl
@[simp] theorem updateStatus_activeDevice : (updateStatus s).activeDevice = s.activeDevice := rfl
@[simp] theorem updateStatus_ev : (updateStatus s).ev = s.ev := rfl
@[simp] theorem updateStatus_now : (updateStatus s).now = s.now := rfl
@[simp] theorem updateStatus_ctrlSlot : (updateStatus s).ctrlSlot = s.ctrlSlot := rfl
@[simp] theorem updateStatus_cardSlot : (updateStatus s).cardSlot = s.cardSlot := rfl
@[simp] theorem updateStatus_tap : (updateStatus s).tap = s.tap := rfl
@[simp] theorem updateStatus_outputs : (updateStatus s).outputs = s.outputs := rfl
@[simp] theorem updateStatus_restoreFailed : (updateStatus s).restoreFailed = s.restoreFailed := rfl
@[simp] theorem updateStatus_params : (updateStatus s).params = s.params := rfl
@[simp] theorem updateStatus_pending : (updateStatus s).pending = s.pending := rfl
@[simp] theorem updateStatus_returned : (updateStatus s).returned = s.returned := rfl
@[simp] theorem updateStatus_draws : (updateStatus s).draws = s.draws := rfl

/-! ### `sched` -/

@[simp] theorem sched_ctrl (n : Nat) : (sched n s).ctrl = s.ctrl := rfl
@[simp] theorem sched_stat (n : Nat) : (sched n s).stat = s.stat := rfl
@[simp] theorem sched_mode (n : Nat) : (sched n s).mode = s.mode := rfl
@[simp] theorem sched_baud (n : Nat) : (sched n s).baud = s.baud := rfl
@[simp] theorem sched_transmitBuffer (n : Nat) : (sched n s).transmitBuffer = s.transmitBuffer := rfl
@[simp] theorem sched_transmitFull (n : Nat) : (sched n s).transmitFull = s.transmitFull := rfl
@[simp] theorem sched_receiveBuffer (n : Nat) : (sched n s).receiveBuffer = s.receiveBuffer := rfl
@[simp] theorem sched_receiveFull (n : Nat) : (sched n s).receiveFull = s.receiveFull := rfl
@[simp] theorem sched_inFlight (n : Nat) : (sched n s).inFlight = s.inFlight := rfl
@[simp] theorem sched_busState (n : Nat) : (sched n s).busState = s.busState := rfl
@[simp] theorem sched_activeDevice (n : Nat) : (sched n s).activeDevice = s.activeDevice := rfl
@[simp] theorem sched_ev (n : Nat) : (sched n s).ev = ({ active := true, deadline := s.now + n } : Event) := rfl
@[simp] theorem sched_now (n : Nat) : (sched n s).now = s.now := rfl
@[simp] theorem sched_ctrlSlot (n : Nat) : (sched n s).ctrlSlot = s.ctrlSlot := rfl
@[simp] theorem sched_cardSlot (n : Nat) : (sched n s).cardSlot = s.cardSlot := rfl
@[simp] theorem sched_tap (n : Nat) : (sched n s).tap = s.tap := rfl
@[simp] theorem sched_outputs (n : Nat) : (sched n s).outputs = s.outputs := rfl
@[simp] theorem sched_restoreFailed (n : Nat) : (sched n s).restoreFailed = s.restoreFailed := rfl
@[simp] theorem sched_params (n : Nat) : (sched n s).params = s.params := rfl
@[simp] theorem sched_pending (n : Nat) : (sched n s).pending = s.pending := rfl
@[simp] theorem sched_returned (n : Nat) : (sched n s).returned = s.returned := rfl
@[simp] theorem sched_draws (n : Nat) : (sched n s).draws = s.draws + 1 := rfl

/-! ### `deact` -/

@[simp] theorem deact_ctrl : (deact s).ctrl = s.ctrl := rfl
@[simp] theorem deact_stat : (deact s).stat = s.stat := rfl
@[simp] theorem deact_mode : (deact s).mode = s.mode := rfl
@[simp] theorem deact_baud : (deact s).baud = s.baud := rfl
@[simp] theorem deact_transmitBuffer : (deact s).transmitBuffer = s.transmitBuffer := rfl
@[simp] theorem deact_transmitFull : (deact s).transmitFull = s.transmitFull := rfl
@[simp] theorem deact_receiveBuffer : (deact s).receiveBuffer = s.receiveBuffer := rfl
@[simp] theorem deact_receiveFull : (deact s).receiveFull = s.receiveFull := rfl
@[simp] theorem deact_inFlight : (deact s).inFlight = s.inFlight := rfl
@[simp] theorem deact_busState : (deact s).busState = s.busState := rfl
@[simp] theorem deact_activeDevice : (deact s).activeDevice = s.activeDevice := rfl
@[simp] theorem deact_ev : (deact s).ev = ({ s.ev with active := false } : Event) := rfl
@[simp] theorem deact_now : (deact s).now = s.now := rfl
@[simp] theorem deact_ctrlSlot : (deact s).ctrlSlot = s.ctrlSlot := rfl
@[simp] theorem deact_cardSlot : (deact s).cardSlot = s.cardSlot := rfl
@[simp] theorem deact_tap : (deact s).tap = s.tap := rfl
@[simp] theorem deact_outputs : (deact s).outputs = s.outputs := rfl
@[simp] theorem deact_restoreFailed : (deact s).restoreFailed = s.restoreFailed := rfl
@[simp] theorem deact_params : (deact s).params = s.params := rfl
@[simp] theorem deact_pending : (deact s).pending = s.pending := rfl
@[simp] theorem deact_returned : (deact s).returned = s.returned := rfl
@[simp] theorem deact_draws : (deact s).draws = s.draws := rfl

/-! ### `emit` -/

@[simp] theorem emit_ctrl (e : OutEvent) : (emit e s).ctrl = s.ctrl := rfl
@[simp] theorem emit_stat (e : OutEvent) : (emit e s).stat = s.stat := rfl
@[simp] theorem emit_mode (e : OutEvent) : (emit e s).mode = s.mode := rfl
@[simp] theorem emit_baud (e : OutEvent) : (emit e s).baud = s.baud := rfl
@[simp] theorem emit_transmitBuffer (e : OutEvent) : (emit e s).transmitBuffer = s.transmitBuffer := rfl
@[simp] theorem emit_transmitFull (e : OutEvent) : (emit e s).transmitFull = s.transmitFull := rfl
@[simp] theorem emit_receiveBuffer (e : OutEvent) : (emit e s).receiveBuffer = s.receiveBuffer := rfl
@[simp] theorem emit_receiveFull (e : OutEvent) : (emit e s).receiveFull = s.receiveFull := rfl
@[simp] theorem emit_inFlight (e : OutEvent) : (emit e s).inFlight = s.inFlight := rfl
@[simp] theorem emit_busState (e : OutEvent) : (emit e s).busState = s.busState := rfl
@[simp] theorem emit_activeDevice (e : OutEvent) : (emit e s).activeDevice = s.activeDevice := rfl
@[simp] theorem emit_ev (e : OutEvent) : (emit e s).ev = s.ev := rfl
@[simp] theorem emit_now (e : OutEvent) : (emit e s).now = s.now := rfl
@[simp] theorem emit_ctrlSlot (e : OutEvent) : (emit e s).ctrlSlot = s.ctrlSlot := rfl
@[simp] theorem emit_cardSlot (e : OutEvent) : (emit e s).cardSlot = s.cardSlot := rfl
@[simp] theorem emit_tap (e : OutEvent) : (emit e s).tap = s.tap := rfl
@[simp] theorem emit_outputs (e : OutEvent) : (emit e s).outputs = s.outputs ++ [e] := rfl
@[simp] theorem emit_restoreFailed (e : OutEvent) : (emit e s).restoreFailed = s.restoreFailed := rfl
@[simp] theorem emit_params (e : OutEvent) : (emit e s).params = s.params := rfl
@[simp] theorem emit_pending (e : OutEvent) : (emit e s).pending = s.pending := rfl
@[simp] theorem emit_returned (e : OutEvent) : (emit e s).returned = s.returned := rfl
@[simp] theorem emit_draws (e : OutEvent) : (emit e s).draws = s.draws := rfl

/-! ### `answer` -/

@[simp] theorem answer_ctrl (w : Width) (v : Word) : (answer w v s).ctrl = s.ctrl := rfl
@[simp] theorem answer_stat (w : Width) (v : Word) : (answer w v s).stat = s.stat := rfl
@[simp] theorem answer_mode (w : Width) (v : Word) : (answer w v s).mode = s.mode := rfl
@[simp] theorem answer_baud (w : Width) (v : Word) : (answer w v s).baud = s.baud := rfl
@[simp] theorem answer_transmitBuffer (w : Width) (v : Word) : (answer w v s).transmitBuffer = s.transmitBuffer := rfl
@[simp] theorem answer_transmitFull (w : Width) (v : Word) : (answer w v s).transmitFull = s.transmitFull := rfl
@[simp] theorem answer_receiveBuffer (w : Width) (v : Word) : (answer w v s).receiveBuffer = s.receiveBuffer := rfl
@[simp] theorem answer_receiveFull (w : Width) (v : Word) : (answer w v s).receiveFull = s.receiveFull := rfl
@[simp] theorem answer_inFlight (w : Width) (v : Word) : (answer w v s).inFlight = s.inFlight := rfl
@[simp] theorem answer_busState (w : Width) (v : Word) : (answer w v s).busState = s.busState := rfl
@[simp] theorem answer_activeDevice (w : Width) (v : Word) : (answer w v s).activeDevice = s.activeDevice := rfl
@[simp] theorem answer_ev (w : Width) (v : Word) : (answer w v s).ev = s.ev := rfl
@[simp] theorem answer_now (w : Width) (v : Word) : (answer w v s).now = s.now := rfl
@[simp] theorem answer_ctrlSlot (w : Width) (v : Word) : (answer w v s).ctrlSlot = s.ctrlSlot := rfl
@[simp] theorem answer_cardSlot (w : Width) (v : Word) : (answer w v s).cardSlot = s.cardSlot := rfl
@[simp] theorem answer_tap (w : Width) (v : Word) : (answer w v s).tap = s.tap := rfl
@[simp] theorem answer_outputs (w : Width) (v : Word) : (answer w v s).outputs = s.outputs ++ [.read w (lowBits w v)] := rfl
@[simp] theorem answer_restoreFailed (w : Width) (v : Word) : (answer w v s).restoreFailed = s.restoreFailed := rfl
@[simp] theorem answer_params (w : Width) (v : Word) : (answer w v s).params = s.params := rfl
@[simp] theorem answer_pending (w : Width) (v : Word) : (answer w v s).pending = s.pending := rfl
@[simp] theorem answer_returned (w : Width) (v : Word) : (answer w v s).returned = s.returned := rfl
@[simp] theorem answer_draws (w : Width) (v : Word) : (answer w v s).draws = s.draws := rfl

/-! ### `raiseIrq` -/

@[simp] theorem raiseIrq_ctrl : (raiseIrq s).ctrl = s.ctrl := rfl
@[simp] theorem raiseIrq_stat : (raiseIrq s).stat = withIntr s.stat true := rfl
@[simp] theorem raiseIrq_mode : (raiseIrq s).mode = s.mode := rfl
@[simp] theorem raiseIrq_baud : (raiseIrq s).baud = s.baud := rfl
@[simp] theorem raiseIrq_transmitBuffer : (raiseIrq s).transmitBuffer = s.transmitBuffer := rfl
@[simp] theorem raiseIrq_transmitFull : (raiseIrq s).transmitFull = s.transmitFull := rfl
@[simp] theorem raiseIrq_receiveBuffer : (raiseIrq s).receiveBuffer = s.receiveBuffer := rfl
@[simp] theorem raiseIrq_receiveFull : (raiseIrq s).receiveFull = s.receiveFull := rfl
@[simp] theorem raiseIrq_inFlight : (raiseIrq s).inFlight = s.inFlight := rfl
@[simp] theorem raiseIrq_busState : (raiseIrq s).busState = s.busState := rfl
@[simp] theorem raiseIrq_activeDevice : (raiseIrq s).activeDevice = s.activeDevice := rfl
@[simp] theorem raiseIrq_ev : (raiseIrq s).ev = s.ev := rfl
@[simp] theorem raiseIrq_now : (raiseIrq s).now = s.now := rfl
@[simp] theorem raiseIrq_ctrlSlot : (raiseIrq s).ctrlSlot = s.ctrlSlot := rfl
@[simp] theorem raiseIrq_cardSlot : (raiseIrq s).cardSlot = s.cardSlot := rfl
@[simp] theorem raiseIrq_tap : (raiseIrq s).tap = s.tap := rfl
@[simp] theorem raiseIrq_outputs : (raiseIrq s).outputs = s.outputs ++ [.irq Config.irqLine] := rfl
@[simp] theorem raiseIrq_restoreFailed : (raiseIrq s).restoreFailed = s.restoreFailed := rfl
@[simp] theorem raiseIrq_params : (raiseIrq s).params = s.params := rfl
@[simp] theorem raiseIrq_pending : (raiseIrq s).pending = s.pending := rfl
@[simp] theorem raiseIrq_returned : (raiseIrq s).returned = s.returned := rfl
@[simp] theorem raiseIrq_draws : (raiseIrq s).draws = s.draws := rfl

/-! ### `clearIrq` -/

@[simp] theorem clearIrq_ctrl : (clearIrq s).ctrl = s.ctrl := rfl
@[simp] theorem clearIrq_stat : (clearIrq s).stat = withIntr s.stat false := rfl
@[simp] theorem clearIrq_mode : (clearIrq s).mode = s.mode := rfl
@[simp] theorem clearIrq_baud : (clearIrq s).baud = s.baud := rfl
@[simp] theorem clearIrq_transmitBuffer : (clearIrq s).transmitBuffer = s.transmitBuffer := rfl
@[simp] theorem clearIrq_transmitFull : (clearIrq s).transmitFull = s.transmitFull := rfl
@[simp] theorem clearIrq_receiveBuffer : (clearIrq s).receiveBuffer = s.receiveBuffer := rfl
@[simp] theorem clearIrq_receiveFull : (clearIrq s).receiveFull = s.receiveFull := rfl
@[simp] theorem clearIrq_inFlight : (clearIrq s).inFlight = s.inFlight := rfl
@[simp] theorem clearIrq_busState : (clearIrq s).busState = s.busState := rfl
@[simp] theorem clearIrq_activeDevice : (clearIrq s).activeDevice = s.activeDevice := rfl
@[simp] theorem clearIrq_ev : (clearIrq s).ev = s.ev := rfl
@[simp] theorem clearIrq_now : (clearIrq s).now = s.now := rfl
@[simp] theorem clearIrq_ctrlSlot : (clearIrq s).ctrlSlot = s.ctrlSlot := rfl
@[simp] theorem clearIrq_cardSlot : (clearIrq s).cardSlot = s.cardSlot := rfl
@[simp] theorem clearIrq_tap : (clearIrq s).tap = s.tap := rfl
@[simp] theorem clearIrq_outputs : (clearIrq s).outputs = s.outputs := rfl
@[simp] theorem clearIrq_restoreFailed : (clearIrq s).restoreFailed = s.restoreFailed := rfl
@[simp] theorem clearIrq_params : (clearIrq s).params = s.params := rfl
@[simp] theorem clearIrq_pending : (clearIrq s).pending = s.pending := rfl
@[simp] theorem clearIrq_returned : (clearIrq s).returned = s.returned := rfl
@[simp] theorem clearIrq_draws : (clearIrq s).draws = s.draws := rfl

/-! ### `putController` -/

@[simp] theorem putController_ctrl (i : Slot) (c : Option Controller) : (putController i c s).ctrl = s.ctrl := rfl
@[simp] theorem putController_stat (i : Slot) (c : Option Controller) : (putController i c s).stat = s.stat := rfl
@[simp] theorem putController_mode (i : Slot) (c : Option Controller) : (putController i c s).mode = s.mode := rfl
@[simp] theorem putController_baud (i : Slot) (c : Option Controller) : (putController i c s).baud = s.baud := rfl
@[simp] theorem putController_transmitBuffer (i : Slot) (c : Option Controller) : (putController i c s).transmitBuffer = s.transmitBuffer := rfl
@[simp] theorem putController_transmitFull (i : Slot) (c : Option Controller) : (putController i c s).transmitFull = s.transmitFull := rfl
@[simp] theorem putController_receiveBuffer (i : Slot) (c : Option Controller) : (putController i c s).receiveBuffer = s.receiveBuffer := rfl
@[simp] theorem putController_receiveFull (i : Slot) (c : Option Controller) : (putController i c s).receiveFull = s.receiveFull := rfl
@[simp] theorem putController_inFlight (i : Slot) (c : Option Controller) : (putController i c s).inFlight = s.inFlight := rfl
@[simp] theorem putController_busState (i : Slot) (c : Option Controller) : (putController i c s).busState = s.busState := rfl
@[simp] theorem putController_activeDevice (i : Slot) (c : Option Controller) : (putController i c s).activeDevice = s.activeDevice := rfl
@[simp] theorem putController_ev (i : Slot) (c : Option Controller) : (putController i c s).ev = s.ev := rfl
@[simp] theorem putController_now (i : Slot) (c : Option Controller) : (putController i c s).now = s.now := rfl
@[simp] theorem putController_ctrlSlot (i : Slot) (c : Option Controller) : (putController i c s).ctrlSlot = s.ctrlSlot.set i c := rfl
@[simp] theorem putController_cardSlot (i : Slot) (c : Option Controller) : (putController i c s).cardSlot = s.cardSlot := rfl
@[simp] theorem putController_tap (i : Slot) (c : Option Controller) : (putController i c s).tap = s.tap := rfl
@[simp] theorem putController_outputs (i : Slot) (c : Option Controller) : (putController i c s).outputs = s.outputs := rfl
@[simp] theorem putController_restoreFailed (i : Slot) (c : Option Controller) : (putController i c s).restoreFailed = s.restoreFailed := rfl
@[simp] theorem putController_params (i : Slot) (c : Option Controller) : (putController i c s).params = s.params := rfl
@[simp] theorem putController_pending (i : Slot) (c : Option Controller) : (putController i c s).pending = s.pending := rfl
@[simp] theorem putController_returned (i : Slot) (c : Option Controller) : (putController i c s).returned = s.returned := rfl
@[simp] theorem putController_draws (i : Slot) (c : Option Controller) : (putController i c s).draws = s.draws := rfl

/-! ### `putCard` -/

@[simp] theorem putCard_ctrl (i : Slot) (c : Option Card) : (putCard i c s).ctrl = s.ctrl := rfl
@[simp] theorem putCard_stat (i : Slot) (c : Option Card) : (putCard i c s).stat = s.stat := rfl
@[simp] theorem putCard_mode (i : Slot) (c : Option Card) : (putCard i c s).mode = s.mode := rfl
@[simp] theorem putCard_baud (i : Slot) (c : Option Card) : (putCard i c s).baud = s.baud := rfl
@[simp] theorem putCard_transmitBuffer (i : Slot) (c : Option Card) : (putCard i c s).transmitBuffer = s.transmitBuffer := rfl
@[simp] theorem putCard_transmitFull (i : Slot) (c : Option Card) : (putCard i c s).transmitFull = s.transmitFull := rfl
@[simp] theorem putCard_receiveBuffer (i : Slot) (c : Option Card) : (putCard i c s).receiveBuffer = s.receiveBuffer := rfl
@[simp] theorem putCard_receiveFull (i : Slot) (c : Option Card) : (putCard i c s).receiveFull = s.receiveFull := rfl
@[simp] theorem putCard_inFlight (i : Slot) (c : Option Card) : (putCard i c s).inFlight = s.inFlight := rfl
@[simp] theorem putCard_busState (i : Slot) (c : Option Card) : (putCard i c s).busState = s.busState := rfl
@[simp] theorem putCard_activeDevice (i : Slot) (c : Option Card) : (putCard i c s).activeDevice = s.activeDevice := rfl
@[simp] theorem putCard_ev (i : Slot) (c : Option Card) : (putCard i c s).ev = s.ev := rfl
@[simp] theorem putCard_now (i : Slot) (c : Option Card) : (putCard i c s).now = s.now := rfl
@[simp] theorem putCard_ctrlSlot (i : Slot) (c : Option Card) : (putCard i c s).ctrlSlot = s.ctrlSlot := rfl
@[simp] theorem putCard_cardSlot (i : Slot) (c : Option Card) : (putCard i c s).cardSlot = s.cardSlot.set i c := rfl
@[simp] theorem putCard_tap (i : Slot) (c : Option Card) : (putCard i c s).tap = s.tap := rfl
@[simp] theorem putCard_outputs (i : Slot) (c : Option Card) : (putCard i c s).outputs = s.outputs := rfl
@[simp] theorem putCard_restoreFailed (i : Slot) (c : Option Card) : (putCard i c s).restoreFailed = s.restoreFailed := rfl
@[simp] theorem putCard_params (i : Slot) (c : Option Card) : (putCard i c s).params = s.params := rfl
@[simp] theorem putCard_pending (i : Slot) (c : Option Card) : (putCard i c s).pending = s.pending := rfl
@[simp] theorem putCard_returned (i : Slot) (c : Option Card) : (putCard i c s).returned = s.returned := rfl
@[simp] theorem putCard_draws (i : Slot) (c : Option Card) : (putCard i c s).draws = s.draws := rfl

/-! ### `putTap` -/

@[simp] theorem putTap_ctrl (p : Port) (t : Option Tap) : (putTap p t s).ctrl = s.ctrl := rfl
@[simp] theorem putTap_stat (p : Port) (t : Option Tap) : (putTap p t s).stat = s.stat := rfl
@[simp] theorem putTap_mode (p : Port) (t : Option Tap) : (putTap p t s).mode = s.mode := rfl
@[simp] theorem putTap_baud (p : Port) (t : Option Tap) : (putTap p t s).baud = s.baud := rfl
@[simp] theorem putTap_transmitBuffer (p : Port) (t : Option Tap) : (putTap p t s).transmitBuffer = s.transmitBuffer := rfl
@[simp] theorem putTap_transmitFull (p : Port) (t : Option Tap) : (putTap p t s).transmitFull = s.transmitFull := rfl
@[simp] theorem putTap_receiveBuffer (p : Port) (t : Option Tap) : (putTap p t s).receiveBuffer = s.receiveBuffer := rfl
@[simp] theorem putTap_receiveFull (p : Port) (t : Option Tap) : (putTap p t s).receiveFull = s.receiveFull := rfl
@[simp] theorem putTap_inFlight (p : Port) (t : Option Tap) : (putTap p t s).inFlight = s.inFlight := rfl
@[simp] theorem putTap_busState (p : Port) (t : Option Tap) : (putTap p t s).busState = s.busState := rfl
@[simp] theorem putTap_activeDevice (p : Port) (t : Option Tap) : (putTap p t s).activeDevice = s.activeDevice := rfl
@[simp] theorem putTap_ev (p : Port) (t : Option Tap) : (putTap p t s).ev = s.ev := rfl
@[simp] theorem putTap_now (p : Port) (t : Option Tap) : (putTap p t s).now = s.now := rfl
@[simp] theorem putTap_ctrlSlot (p : Port) (t : Option Tap) : (putTap p t s).ctrlSlot = s.ctrlSlot := rfl
@[simp] theorem putTap_cardSlot (p : Port) (t : Option Tap) : (putTap p t s).cardSlot = s.cardSlot := rfl
@[simp] theorem putTap_tap (p : Port) (t : Option Tap) : (putTap p t s).tap = s.tap.set p t := rfl
@[simp] theorem putTap_outputs (p : Port) (t : Option Tap) : (putTap p t s).outputs = s.outputs := rfl
@[simp] theorem putTap_restoreFailed (p : Port) (t : Option Tap) : (putTap p t s).restoreFailed = s.restoreFailed := rfl
@[simp] theorem putTap_params (p : Port) (t : Option Tap) : (putTap p t s).params = s.params := rfl
@[simp] theorem putTap_pending (p : Port) (t : Option Tap) : (putTap p t s).pending = s.pending := rfl
@[simp] theorem putTap_returned (p : Port) (t : Option Tap) : (putTap p t s).returned = s.returned := rfl
@[simp] theorem putTap_draws (p : Port) (t : Option Tap) : (putTap p t s).draws = s.draws := rfl

/-! ### `resetDevices` -/

@[simp] theorem resetDevices_ctrl : (resetDevices s).ctrl = s.ctrl := rfl
@[simp] theorem resetDevices_stat : (resetDevices s).stat = s.stat := rfl
@[simp] theorem resetDevices_mode : (resetDevices s).mode = s.mode := rfl
@[simp] theorem resetDevices_baud : (resetDevices s).baud = s.baud := rfl
@[simp] theorem resetDevices_transmitBuffer : (resetDevices s).transmitBuffer = s.transmitBuffer := rfl
@[simp] theorem resetDevices_transmitFull : (resetDevices s).transmitFull = s.transmitFull := rfl
@[simp] theorem resetDevices_receiveBuffer : (resetDevices s).receiveBuffer = s.receiveBuffer := rfl
@[simp] theorem resetDevices_receiveFull : (resetDevices s).receiveFull = s.receiveFull := rfl
@[simp] theorem resetDevices_inFlight : (resetDevices s).inFlight = s.inFlight := rfl
@[simp] theorem resetDevices_busState : (resetDevices s).busState = s.busState := rfl
@[simp] theorem resetDevices_activeDevice : (resetDevices s).activeDevice = s.activeDevice := rfl
@[simp] theorem resetDevices_ev : (resetDevices s).ev = s.ev := rfl
@[simp] theorem resetDevices_now : (resetDevices s).now = s.now := rfl
@[simp] theorem resetDevices_ctrlSlot : (resetDevices s).ctrlSlot = s.ctrlSlot.map (Option.map resetController) := rfl
@[simp] theorem resetDevices_cardSlot : (resetDevices s).cardSlot = s.cardSlot.map (Option.map resetCard) := rfl
@[simp] theorem resetDevices_tap : (resetDevices s).tap = s.tap.map (Option.map resetTap) := rfl
@[simp] theorem resetDevices_outputs : (resetDevices s).outputs = s.outputs := rfl
@[simp] theorem resetDevices_restoreFailed : (resetDevices s).restoreFailed = s.restoreFailed := rfl
@[simp] theorem resetDevices_params : (resetDevices s).params = s.params := rfl
@[simp] theorem resetDevices_pending : (resetDevices s).pending = s.pending := rfl
@[simp] theorem resetDevices_returned : (resetDevices s).returned = s.returned := rfl
@[simp] theorem resetDevices_draws : (resetDevices s).draws = s.draws := rfl

/-! ### `deselectAll` -/

@[simp] theorem deselectAll_ctrl : (deselectAll s).ctrl = s.ctrl := rfl
@[simp] theorem deselectAll_stat : (deselectAll s).stat = s.stat := rfl
@[simp] theorem deselectAll_mode : (deselectAll s).mode = s.mode := rfl
@[simp] theorem deselectAll_baud : (deselectAll s).baud = s.baud := rfl
@[simp] theorem deselectAll_transmitBuffer : (deselectAll s).transmitBuffer = s.transmitBuffer := rfl
@[simp] theorem deselectAll_transmitFull : (deselectAll s).transmitFull = s.transmitFull := rfl
@[simp] theorem deselectAll_receiveBuffer : (deselectAll s).receiveBuffer = s.receiveBuffer := rfl
@[simp] theorem deselectAll_receiveFull : (deselectAll s).receiveFull = s.receiveFull := rfl
@[simp] theorem deselectAll_inFlight : (deselectAll s).inFlight = s.inFlight := rfl
@[simp] theorem deselectAll_busState : (deselectAll s).busState = s.busState := rfl
@[simp] theorem deselectAll_activeDevice : (deselectAll s).activeDevice = .none := rfl
@[simp] theorem deselectAll_ev : (deselectAll s).ev = s.ev := rfl
@[simp] theorem deselectAll_now : (deselectAll s).now = s.now := rfl
@[simp] theorem deselectAll_ctrlSlot : (deselectAll s).ctrlSlot = s.ctrlSlot.map (Option.map resetController) := rfl
@[simp] theorem deselectAll_cardSlot : (deselectAll s).cardSlot = s.cardSlot.map (Option.map resetCard) := rfl
@[simp] theorem deselectAll_tap : (deselectAll s).tap = s.tap.map (Option.map resetTap) := rfl
@[simp] theorem deselectAll_outputs : (deselectAll s).outputs = s.outputs := rfl
@[simp] theorem deselectAll_restoreFailed : (deselectAll s).restoreFailed = s.restoreFailed := rfl
@[simp] theorem deselectAll_params : (deselectAll s).params = s.params := rfl
@[simp] theorem deselectAll_pending : (deselectAll s).pending = s.pending := rfl
@[simp] theorem deselectAll_returned : (deselectAll s).returned = s.returned := rfl
@[simp] theorem deselectAll_draws : (deselectAll s).draws = s.draws := rfl

/-! ### `beginTransfer` -/

@[simp] theorem beginTransfer_ctrl : (beginTransfer s).ctrl = withRxen s.ctrl := rfl
@[simp] theorem beginTransfer_stat : (beginTransfer s).stat = recompute s.stat false s.receiveFull .transmitting := rfl
@[simp] theorem beginTransfer_mode : (beginTransfer s).mode = s.mode := rfl
@[simp] theorem beginTransfer_baud : (beginTransfer s).baud = s.baud := rfl
@[simp] theorem beginTransfer_transmitBuffer : (beginTransfer s).transmitBuffer = s.transmitBuffer := rfl
@[simp] theorem beginTransfer_transmitFull : (beginTransfer s).transmitFull = false := rfl
@[simp] theorem beginTransfer_receiveBuffer : (beginTransfer s).receiveBuffer = s.receiveBuffer := rfl
@[simp] theorem beginTransfer_receiveFull : (beginTransfer s).receiveFull = s.receiveFull := rfl
@[simp] theorem beginTransfer_inFlight : (beginTransfer s).inFlight = s.transmitBuffer := rfl
@[simp] theorem beginTransfer_busState : (beginTransfer s).busState = .transmitting := rfl
@[simp] theorem beginTransfer_activeDevice : (beginTransfer s).activeDevice = s.activeDevice := rfl
@[simp] theorem beginTransfer_ev : (beginTransfer s).ev = ({ active := true, deadline := s.now + max 1 (Config.transferTicks s.mode s.baud) } : Event) := rfl
@[simp] theorem beginTransfer_now : (beginTransfer s).now = s.now := rfl
@[simp] theorem beginTransfer_ctrlSlot : (beginTransfer s).ctrlSlot = s.ctrlSlot := rfl
@[simp] theorem beginTransfer_cardSlot : (beginTransfer s).cardSlot = s.cardSlot := rfl
@[simp] theorem beginTransfer_tap : (beginTransfer s).tap = s.tap := rfl
@[simp] theorem beginTransfer_outputs : (beginTransfer s).outputs = s.outputs := rfl
@[simp] theorem beginTransfer_restoreFailed : (beginTransfer s).restoreFailed = s.restoreFailed := rfl
@[simp] theorem beginTransfer_params : (beginTransfer s).params = s.params := rfl
@[simp] theorem beginTransfer_pending : (beginTransfer s).pending = s.pending := rfl
@[simp] theorem beginTransfer_returned : (beginTransfer s).returned = s.returned := rfl
@[simp] theorem beginTransfer_draws : (beginTransfer s).draws = s.draws + 1 := rfl

/-! ### `endTransfer` -/

@[simp] theorem endTransfer_ctrl : (endTransfer s).ctrl = s.ctrl := rfl
@[simp] theorem endTransfer_stat : (endTransfer s).stat = recompute s.stat s.transmitFull s.receiveFull .idle := rfl
@[simp] theorem endTransfer_mode : (endTransfer s).mode = s.mode := rfl
@[simp] theorem endTransfer_baud : (endTransfer s).baud = s.baud := rfl
@[simp] theorem endTransfer_transmitBuffer : (endTransfer s).transmitBuffer = s.transmitBuffer := rfl
@[simp] theorem endTransfer_transmitFull : (endTransfer s).transmitFull = s.transmitFull := rfl
@[simp] theorem endTransfer_receiveBuffer : (endTransfer s).receiveBuffer = s.receiveBuffer := rfl
@[simp] theorem endTransfer_receiveFull : (endTransfer s).receiveFull = s.receiveFull := rfl
@[simp] theorem endTransfer_inFlight : (endTransfer s).inFlight = s.inFlight := rfl
@[simp] theorem endTransfer_busState : (endTransfer s).busState = .idle := rfl
@[simp] theorem endTransfer_activeDevice : (endTransfer s).activeDevice = s.activeDevice := rfl
@[simp] theorem endTransfer_ev : (endTransfer s).ev = ({ s.ev with active := false } : Event) := rfl
@[simp] theorem endTransfer_now : (endTransfer s).now = s.now := rfl
@[simp] theorem endTransfer_ctrlSlot : (endTransfer s).ctrlSlot = s.ctrlSlot := rfl
@[simp] theorem endTransfer_cardSlot : (endTransfer s).cardSlot = s.cardSlot := rfl
@[simp] theorem endTransfer_tap : (endTransfer s).tap = s.tap := rfl
@[simp] theorem endTransfer_outputs : (endTransfer s).outputs = s.outputs := rfl
@[simp] theorem endTransfer_restoreFailed : (endTransfer s).restoreFailed = s.restoreFailed := rfl
@[simp] theorem endTransfer_params : (endTransfer s).params = s.params := rfl
@[simp] theorem endTransfer_pending : (endTransfer s).pending = s.pending := rfl
@[simp] theorem endTransfer_returned : (endTransfer s).returned = s.returned := rfl
@[simp] theorem endTransfer_draws : (endTransfer s).draws = s.draws := rfl

/-! ### `softReset` -/

@[simp] theorem softReset_ctrl : (softReset s).ctrl = 0#16 := rfl
@[simp] theorem softReset_stat : (softReset s).stat = 0x00000005#32 := by
  show recompute 0#32 false false .idle = _
  decide
@[simp] theorem softReset_mode : (softReset s).mode = 0#16 := rfl
@[simp] theorem softReset_baud : (softReset s).baud = 0#16 := rfl
@[simp] theorem softReset_transmitBuffer : (softReset s).transmitBuffer = 0#8 := rfl
@[simp] theorem softReset_transmitFull : (softReset s).transmitFull = false := rfl
@[simp] theorem softReset_receiveBuffer : (softReset s).receiveBuffer = 0#8 := rfl
@[simp] theorem softReset_receiveFull : (softReset s).receiveFull = false := rfl
@[simp] theorem softReset_inFlight : (softReset s).inFlight = 0#8 := rfl
@[simp] theorem softReset_busState : (softReset s).busState = .idle := rfl
@[simp] theorem softReset_activeDevice : (softReset s).activeDevice = .none := rfl
@[simp] theorem softReset_ev : (softReset s).ev = ({ s.ev with active := false } : Event) := rfl
@[simp] theorem softReset_now : (softReset s).now = s.now := rfl
@[simp] theorem softReset_ctrlSlot : (softReset s).ctrlSlot = s.ctrlSlot.map (Option.map resetController) := rfl
@[simp] theorem softReset_cardSlot : (softReset s).cardSlot = s.cardSlot.map (Option.map resetCard) := rfl
@[simp] theorem softReset_tap : (softReset s).tap = s.tap.map (Option.map resetTap) := rfl
@[simp] theorem softReset_outputs : (softReset s).outputs = s.outputs := rfl
@[simp] theorem softReset_restoreFailed : (softReset s).restoreFailed = s.restoreFailed := rfl
@[simp] theorem softReset_params : (softReset s).params = s.params := rfl
@[simp] theorem softReset_pending : (softReset s).pending = s.pending := rfl
@[simp] theorem softReset_returned : (softReset s).returned = s.returned := rfl
@[simp] theorem softReset_draws : (softReset s).draws = s.draws := rfl

/-! ### `ackWait` -/

@[simp] theorem ackWait_ctrl (p : Port) : (ackWait p s).ctrl = s.ctrl := rfl
@[simp] theorem ackWait_stat (p : Port) : (ackWait p s).stat = recompute s.stat s.transmitFull s.receiveFull .waitingForAck := rfl
@[simp] theorem ackWait_mode (p : Port) : (ackWait p s).mode = s.mode := rfl
@[simp] theorem ackWait_baud (p : Port) : (ackWait p s).baud = s.baud := rfl
@[simp] theorem ackWait_transmitBuffer (p : Port) : (ackWait p s).transmitBuffer = s.transmitBuffer := rfl
@[simp] theorem ackWait_transmitFull (p : Port) : (ackWait p s).transmitFull = s.transmitFull := rfl
@[simp] theorem ackWait_receiveBuffer (p : Port) : (ackWait p s).receiveBuffer = s.receiveBuffer := rfl
@[simp] theorem ackWait_receiveFull (p : Port) : (ackWait p s).receiveFull = s.receiveFull := rfl
@[simp] theorem ackWait_inFlight (p : Port) : (ackWait p s).inFlight = s.inFlight := rfl
@[simp] theorem ackWait_busState (p : Port) : (ackWait p s).busState = .waitingForAck := rfl
@[simp] theorem ackWait_activeDevice (p : Port) : (ackWait p s).activeDevice = s.activeDevice := rfl
@[simp] theorem ackWait_ev (p : Port) : (ackWait p s).ev = ({ active := true, deadline := s.now + ackTicks p s } : Event) := rfl
@[simp] theorem ackWait_now (p : Port) : (ackWait p s).now = s.now := rfl
@[simp] theorem ackWait_ctrlSlot (p : Port) : (ackWait p s).ctrlSlot = s.ctrlSlot := rfl
@[simp] theorem ackWait_cardSlot (p : Port) : (ackWait p s).cardSlot = s.cardSlot := rfl
@[simp] theorem ackWait_tap (p : Port) : (ackWait p s).tap = s.tap := rfl
@[simp] theorem ackWait_outputs (p : Port) : (ackWait p s).outputs = s.outputs := rfl
@[simp] theorem ackWait_restoreFailed (p : Port) : (ackWait p s).restoreFailed = s.restoreFailed := rfl
@[simp] theorem ackWait_params (p : Port) : (ackWait p s).params = s.params := rfl
@[simp] theorem ackWait_pending (p : Port) : (ackWait p s).pending = s.pending := rfl
@[simp] theorem ackWait_returned (p : Port) : (ackWait p s).returned = s.returned := rfl
@[simp] theorem ackWait_draws (p : Port) : (ackWait p s).draws = s.draws + 1 := rfl

end Sys2Proof.Machine
end

