-- ==== Sys2Proof/Laws/Engine.lean ====
section
/-! SUPPORT. What the exchanges, the arbitration, the ticks, the resets, the passage of time and a step can do: one lemma each,
cited instead of unfolding them. -/

namespace Sys2Proof.Machine

/-! ### Exchanges and arbitration -/

/-- An exchange with a controller changes the controller slots only. -/
theorem exchangeController_spec (i : Slot) (b : Byte) (s : State) :
    ∃ c, (exchangeController i b s).1 = s.setCtrlSlot c := by
  unfold exchangeController
  split
  · exact ⟨s.ctrlSlot, rfl⟩
  · exact ⟨_, rfl⟩

/-- An exchange with a memory card changes the card slots only. -/
theorem exchangeCard_spec (i : Slot) (b : Byte) (s : State) :
    ∃ k, (exchangeCard i b s).1 = s.setCardSlot k := by
  unfold exchangeCard
  split
  · exact ⟨s.cardSlot, rfl⟩
  · exact ⟨_, rfl⟩

/-- A multitap's call changes the slots only. -/
theorem exchangeSub_spec (p : Port) (t : TapTarget) (b : Byte) (s : State) :
    ∃ c k, (exchangeSub p t b s).1 = (s.setCtrlSlot c).setCardSlot k := by
  cases t with
  | controller j =>
    obtain ⟨c, h⟩ := exchangeController_spec (Config.tapSlots p j) b s
    exact ⟨c, s.cardSlot, h⟩
  | card j =>
    obtain ⟨k, h⟩ := exchangeCard_spec (Config.tapSlots p j) b s
    exact ⟨s.ctrlSlot, k, h⟩

/-- A multitap's calls change the slots only. -/
theorem relayCalls_spec (p : Port) (t : Tap) (b : Byte) (n : Nat) (rs : List (Option Reply)) (s : State) :
    ∃ c k, (relayCalls p t b n rs s).1 = (s.setCtrlSlot c).setCardSlot k := by
  induction n generalizing rs s with
  | zero => exact ⟨s.ctrlSlot, s.cardSlot, rfl⟩
  | succ n ih =>
    unfold relayCalls
    split
    · exact ⟨s.ctrlSlot, s.cardSlot, rfl⟩
    · rename_i tgt b' _
      obtain ⟨c, k, h⟩ := exchangeSub_spec p tgt b' s
      obtain ⟨c', k', h'⟩ := ih (rs ++ [(exchangeSub p tgt b' s).2]) (exchangeSub p tgt b' s).1
      exact ⟨c', k', by rw [h', h]; rfl⟩

/-- A multitap's call leaves every slot that is no sub-port of its port as it was (R188). -/
theorem exchangeSub_other (p : Port) (tgt : TapTarget) (b : Byte) (s : State) (j : Slot)
    (hj : ∀ k : SubPort, Config.tapSlots p k ≠ j) :
    (exchangeSub p tgt b s).1.ctrlSlot[j] = s.ctrlSlot[j] ∧ (exchangeSub p tgt b s).1.cardSlot[j] = s.cardSlot[j] := by
  have hv : ∀ k : SubPort, (Config.tapSlots p k).val ≠ j.val := fun k h => hj k (Fin.ext h)
  cases tgt with
  | controller k =>
    unfold exchangeSub exchangeController
    dsimp only
    split
    · exact ⟨rfl, rfl⟩
    · simp [putController, hv]
  | card k =>
    unfold exchangeSub exchangeCard
    dsimp only
    split
    · exact ⟨rfl, rfl⟩
    · simp [putCard, hv]

/-- A multitap's calls leave every slot that is no sub-port of its port as it was (R188). -/
theorem relayCalls_other (p : Port) (t : Tap) (b : Byte) (n : Nat) (rs : List (Option Reply)) (s : State) (j : Slot)
    (hj : ∀ k : SubPort, Config.tapSlots p k ≠ j) :
    (relayCalls p t b n rs s).1.ctrlSlot[j] = s.ctrlSlot[j] ∧ (relayCalls p t b n rs s).1.cardSlot[j] = s.cardSlot[j] := by
  induction n generalizing rs s with
  | zero => exact ⟨rfl, rfl⟩
  | succ n ih =>
    rw [relayCalls]
    cases Config.tapCall t b rs with
    | none => exact ⟨rfl, rfl⟩
    | some c =>
      obtain ⟨a, d⟩ := ih (rs ++ [(exchangeSub p c.1 c.2 s).2]) (exchangeSub p c.1 c.2 s).1
      obtain ⟨a', d'⟩ := exchangeSub_other p c.1 c.2 s j hj
      exact ⟨a.trans a', d.trans d'⟩

/-- An exchange with a multitap changes the slots and the multitaps only. -/
theorem exchangeTap_spec (p : Port) (b : Byte) (s : State) :
    ∃ c k t, (exchangeTap p b s).1 = ((s.setCtrlSlot c).setCardSlot k).setTap t := by
  unfold exchangeTap
  split
  · exact ⟨s.ctrlSlot, s.cardSlot, s.tap, rfl⟩
  · rename_i t _
    obtain ⟨c, k, h⟩ := relayCalls_spec p t b (Config.tapCallLimit t b) [] s
    exact ⟨c, k, _, by simp only [h]; rfl⟩

/-- Arbitration changes the devices and the lock only. -/
theorem arbitrate_spec (p : Port) (idx : Slot) (b : Byte) (s : State) :
    ∃ c k t d, (arbitrate p idx b s).1 = (((s.setCtrlSlot c).setCardSlot k).setTap t).setActiveDevice d := by
  unfold arbitrate
  split
  · unfold arbitrateFree
    split
    · unfold arbitrateTap
      obtain ⟨c, k, t, h⟩ := exchangeTap_spec p b s
      dsimp only
      split
      · exact ⟨c, k, t, .multitap, by rw [h]⟩
      · exact ⟨c, k, t, s.activeDevice, by rw [h]; rfl⟩
    · unfold arbitrateSlot arbitrateCard
      obtain ⟨c, h⟩ := exchangeController_spec idx b s
      dsimp only
      split
      · exact ⟨c, s.cardSlot, s.tap, .controller, by rw [h]; rfl⟩
      · obtain ⟨k, h'⟩ := exchangeCard_spec idx b (exchangeController idx b s).1
        dsimp only
        split
        · exact ⟨c, k, s.tap, .memoryCard, by rw [h', h]; rfl⟩
        · exact ⟨c, k, s.tap, s.activeDevice, by rw [h', h]; rfl⟩
  · obtain ⟨c, h⟩ := exchangeController_spec idx b s
    exact ⟨c, s.cardSlot, s.tap, s.activeDevice, by rw [h]; rfl⟩
  · obtain ⟨k, h⟩ := exchangeCard_spec idx b s
    exact ⟨s.ctrlSlot, k, s.tap, s.activeDevice, by rw [h]; rfl⟩
  · obtain ⟨c, k, t, h⟩ := exchangeTap_spec p b s
    exact ⟨c, k, t, s.activeDevice, by rw [h]; rfl⟩

/-! ### The ticks -/

/-- A latched acknowledge schedules the acknowledge tick (R147, R148). -/
theorem latch_ack (r : Reply) (p : Port) (s : State) (h : r.ack = true) :
    latch r p s = ackWait p ((s.setReceiveBuffer r.byte).setReceiveFull true) := by
  simp [latch, h]

/-- A latched non-ack ends the transfer (R147). -/
theorem latch_nack (r : Reply) (p : Port) (s : State) (h : r.ack = false) :
    latch r p s = endTransfer (((s.setReceiveBuffer r.byte).setReceiveFull true).setActiveDevice .none) := by
  simp [latch, h]

/-- A transfer tick changes devices and the lock, and latches the answer (R143 to R148). -/
theorem transferTick_spec (s : State) :
    ∃ c k t d r, transferTick s =
      latch r (selectedPort s) ((((s.setCtrlSlot c).setCardSlot k).setTap t).setActiveDevice d) := by
  obtain ⟨c, k, t, d, h⟩ := arbitrate_spec (selectedPort s) (deviceIndex (selectedPort s) s) s.inFlight s
  refine ⟨c, k, t, d, (arbitrate (selectedPort s) (deviceIndex (selectedPort s) s) s.inFlight s).2, ?_⟩
  rw [← h]
  rfl

@[simp] theorem transferTick_ctrl (s : State) : (transferTick s).ctrl = s.ctrl := by
  obtain ⟨_, _, _, _, r, h⟩ := transferTick_spec s
  rw [h]
  cases hr : r.ack <;> simp [latch_ack, latch_nack, hr]

@[simp] theorem transferTick_mode (s : State) : (transferTick s).mode = s.mode := by
  obtain ⟨_, _, _, _, r, h⟩ := transferTick_spec s
  rw [h]
  cases hr : r.ack <;> simp [latch_ack, latch_nack, hr]

@[simp] theorem transferTick_baud (s : State) : (transferTick s).baud = s.baud := by
  obtain ⟨_, _, _, _, r, h⟩ := transferTick_spec s
  rw [h]
  cases hr : r.ack <;> simp [latch_ack, latch_nack, hr]

@[simp] theorem transferTick_transmitBuffer (s : State) : (transferTick s).transmitBuffer = s.transmitBuffer := by
  obtain ⟨_, _, _, _, r, h⟩ := transferTick_spec s
  rw [h]
  cases hr : r.ack <;> simp [latch_ack, latch_nack, hr]

@[simp] theorem transferTick_transmitFull (s : State) : (transferTick s).transmitFull = s.transmitFull := by
  obtain ⟨_, _, _, _, r, h⟩ := transferTick_spec s
  rw [h]
  cases hr : r.ack <;> simp [latch_ack, latch_nack, hr]

@[simp] theorem transferTick_inFlight (s : State) : (transferTick s).inFlight = s.inFlight := by
  obtain ⟨_, _, _, _, r, h⟩ := transferTick_spec s
  rw [h]
  cases hr : r.ack <;> simp [latch_ack, latch_nack, hr]

@[simp] theorem transferTick_now (s : State) : (transferTick s).now = s.now := by
  obtain ⟨_, _, _, _, r, h⟩ := transferTick_spec s
  rw [h]
  cases hr : r.ack <;> simp [latch_ack, latch_nack, hr]

@[simp] theorem transferTick_outputs (s : State) : (transferTick s).outputs = s.outputs := by
  obtain ⟨_, _, _, _, r, h⟩ := transferTick_spec s
  rw [h]
  cases hr : r.ack <;> simp [latch_ack, latch_nack, hr]

@[simp] theorem transferTick_restoreFailed (s : State) : (transferTick s).restoreFailed = s.restoreFailed := by
  obtain ⟨_, _, _, _, r, h⟩ := transferTick_spec s
  rw [h]
  cases hr : r.ack <;> simp [latch_ack, latch_nack, hr]

@[simp] theorem transferTick_params (s : State) : (transferTick s).params = s.params := by
  obtain ⟨_, _, _, _, r, h⟩ := transferTick_spec s
  rw [h]
  cases hr : r.ack <;> simp [latch_ack, latch_nack, hr]

@[simp] theorem transferTick_pending (s : State) : (transferTick s).pending = s.pending := by
  obtain ⟨_, _, _, _, r, h⟩ := transferTick_spec s
  rw [h]
  cases hr : r.ack <;> simp [latch_ack, latch_nack, hr]

@[simp] theorem transferTick_returned (s : State) : (transferTick s).returned = s.returned := by
  obtain ⟨_, _, _, _, r, h⟩ := transferTick_spec s
  rw [h]
  cases hr : r.ack <;> simp [latch_ack, latch_nack, hr]

/-- A transfer tick either ends the transfer or schedules the acknowledge tick at a later tick (R147, R148, R155). -/
theorem transferTick_phase (s : State) :
    ((transferTick s).busState = .idle ∧ (transferTick s).ev.active = false) ∨
      ((transferTick s).busState = .waitingForAck ∧ (transferTick s).ev.active = true ∧
        s.now < (transferTick s).ev.deadline) := by
  obtain ⟨_, _, _, _, r, h⟩ := transferTick_spec s
  rw [h]
  cases hr : r.ack
  · simp [latch_nack, hr]
  · right
    simp only [latch_ack _ _ _ hr, ackWait_busState, ackWait_ev, State.setReceiveFull_now, State.setReceiveBuffer_now,
      State.setActiveDevice_now, State.setTap_now, State.setCardSlot_now, State.setCtrlSlot_now, true_and]
    unfold ackTicks Config.ackTicksCard Config.ackTicksCtrl
    split <;> omega

/-- A transfer tick leaves every STAT bit but the derived ones (R147, R154, R155). -/
theorem transferTick_stat (s : State) :
    (transferTick s).stat =
      recompute s.stat s.transmitFull (transferTick s).receiveFull (transferTick s).busState := by
  obtain ⟨_, _, _, _, r, h⟩ := transferTick_spec s
  rw [h]
  cases hr : r.ack <;> simp [latch_ack, latch_nack, hr]

/-- A transfer tick fills the receive latch (R147). -/
@[simp] theorem transferTick_receiveFull (s : State) : (transferTick s).receiveFull = true := by
  obtain ⟨_, _, _, _, r, h⟩ := transferTick_spec s
  rw [h]
  cases hr : r.ack <;> simp [latch_ack, latch_nack, hr]

/-- The early tick happens or does not (R152). -/
theorem invokeEarly_cases (s : State) :
    (s.busState = .transmitting ∧ invokeEarly s = transferTick s) ∨ invokeEarly s = s := by
  unfold invokeEarly
  split
  · rename_i h
    exact .inl ⟨h.1, rfl⟩
  · exact .inr rfl

/-- The acknowledge tick up to its chained start (R150). -/
def ackTickEnd (s : State) : State :=
  endTransfer (if ackinten s.ctrl then raiseIrq (s.setStat (withAckin s.stat true)) else s.setStat (withAckin s.stat true))

/-- The acknowledge tick: its end, then the chained start where the preconditions hold (R150, R151). -/
theorem ackTick_eq (s : State) :
    ackTick s = if canTransfer (ackTickEnd s) then beginTransfer (ackTickEnd s) else ackTickEnd s := rfl

@[simp] theorem ackTickEnd_ctrl (s : State) : (ackTickEnd s).ctrl = s.ctrl := by
  unfold ackTickEnd
  split <;> simp

@[simp] theorem ackTickEnd_mode (s : State) : (ackTickEnd s).mode = s.mode := by
  unfold ackTickEnd
  split <;> simp

@[simp] theorem ackTickEnd_baud (s : State) : (ackTickEnd s).baud = s.baud := by
  unfold ackTickEnd
  split <;> simp

@[simp] theorem ackTickEnd_transmitBuffer (s : State) : (ackTickEnd s).transmitBuffer = s.transmitBuffer := by
  unfold ackTickEnd
  split <;> simp

@[simp] theorem ackTickEnd_transmitFull (s : State) : (ackTickEnd s).transmitFull = s.transmitFull := by
  unfold ackTickEnd
  split <;> simp

@[simp] theorem ackTickEnd_receiveBuffer (s : State) : (ackTickEnd s).receiveBuffer = s.receiveBuffer := by
  unfold ackTickEnd
  split <;> simp

@[simp] theorem ackTickEnd_receiveFull (s : State) : (ackTickEnd s).receiveFull = s.receiveFull := by
  unfold ackTickEnd
  split <;> simp

@[simp] theorem ackTickEnd_inFlight (s : State) : (ackTickEnd s).inFlight = s.inFlight := by
  unfold ackTickEnd
  split <;> simp

@[simp] theorem ackTickEnd_activeDevice (s : State) : (ackTickEnd s).activeDevice = s.activeDevice := by
  unfold ackTickEnd
  split <;> simp

@[simp] theorem ackTickEnd_now (s : State) : (ackTickEnd s).now = s.now := by
  unfold ackTickEnd
  split <;> simp

@[simp] theorem ackTickEnd_ctrlSlot (s : State) : (ackTickEnd s).ctrlSlot = s.ctrlSlot := by
  unfold ackTickEnd
  split <;> simp

@[simp] theorem ackTickEnd_cardSlot (s : State) : (ackTickEnd s).cardSlot = s.cardSlot := by
  unfold ackTickEnd
  split <;> simp

@[simp] theorem ackTickEnd_tap (s : State) : (ackTickEnd s).tap = s.tap := by
  unfold ackTickEnd
  split <;> simp

@[simp] theorem ackTickEnd_restoreFailed (s : State) : (ackTickEnd s).restoreFailed = s.restoreFailed := by
  unfold ackTickEnd
  split <;> simp

@[simp] theorem ackTickEnd_params (s : State) : (ackTickEnd s).params = s.params := by
  unfold ackTickEnd
  split <;> simp

@[simp] theorem ackTickEnd_pending (s : State) : (ackTickEnd s).pending = s.pending := by
  unfold ackTickEnd
  split <;> simp

@[simp] theorem ackTickEnd_returned (s : State) : (ackTickEnd s).returned = s.returned := by
  unfold ackTickEnd
  split <;> simp

@[simp] theorem ackTickEnd_draws (s : State) : (ackTickEnd s).draws = s.draws := by
  unfold ackTickEnd
  split <;> simp

@[simp] theorem ackTickEnd_busState (s : State) : (ackTickEnd s).busState = .idle := by
  unfold ackTickEnd
  split <;> simp

@[simp] theorem ackTickEnd_ev_active (s : State) : (ackTickEnd s).ev.active = false := by
  unfold ackTickEnd
  split <;> simp

/-- The chained start's preconditions are those of the state before the tick (R151). -/
@[simp] theorem canTransfer_ackTickEnd (s : State) : canTransfer (ackTickEnd s) = canTransfer s := by
  simp [canTransfer]

@[simp] theorem ackTick_mode (s : State) : (ackTick s).mode = s.mode := by
  rw [ackTick_eq]
  split <;> simp

@[simp] theorem ackTick_baud (s : State) : (ackTick s).baud = s.baud := by
  rw [ackTick_eq]
  split <;> simp

@[simp] theorem ackTick_transmitBuffer (s : State) : (ackTick s).transmitBuffer = s.transmitBuffer := by
  rw [ackTick_eq]
  split <;> simp

@[simp] theorem ackTick_receiveBuffer (s : State) : (ackTick s).receiveBuffer = s.receiveBuffer := by
  rw [ackTick_eq]
  split <;> simp

@[simp] theorem ackTick_receiveFull (s : State) : (ackTick s).receiveFull = s.receiveFull := by
  rw [ackTick_eq]
  split <;> simp

@[simp] theorem ackTick_activeDevice (s : State) : (ackTick s).activeDevice = s.activeDevice := by
  rw [ackTick_eq]
  split <;> simp

@[simp] theorem ackTick_now (s : State) : (ackTick s).now = s.now := by
  rw [ackTick_eq]
  split <;> simp

@[simp] theorem ackTick_ctrlSlot (s : State) : (ackTick s).ctrlSlot = s.ctrlSlot := by
  rw [ackTick_eq]
  split <;> simp

@[simp] theorem ackTick_cardSlot (s : State) : (ackTick s).cardSlot = s.cardSlot := by
  rw [ackTick_eq]
  split <;> simp

@[simp] theorem ackTick_tap (s : State) : (ackTick s).tap = s.tap := by
  rw [ackTick_eq]
  split <;> simp

@[simp] theorem ackTick_restoreFailed (s : State) : (ackTick s).restoreFailed = s.restoreFailed := by
  rw [ackTick_eq]
  split <;> simp

@[simp] theorem ackTick_params (s : State) : (ackTick s).params = s.params := by
  rw [ackTick_eq]
  split <;> simp

@[simp] theorem ackTick_pending (s : State) : (ackTick s).pending = s.pending := by
  rw [ackTick_eq]
  split <;> simp

@[simp] theorem ackTick_returned (s : State) : (ackTick s).returned = s.returned := by
  rw [ackTick_eq]
  split <;> simp

/-- An acknowledge tick ends the transfer or begins the next one, with a later deadline (R150, R151). -/
theorem ackTick_phase (s : State) :
    ((ackTick s).busState = .idle ∧ (ackTick s).ev.active = false) ∨
      ((ackTick s).busState = .transmitting ∧ (ackTick s).ev.active = true ∧ s.now < (ackTick s).ev.deadline) := by
  rw [ackTick_eq]
  split
  · right
    refine ⟨rfl, rfl, ?_⟩
    simp only [beginTransfer_ev, ackTickEnd_now]
    omega
  · left
    simp

/-- What a firing leaves: the time, and either no event or a later deadline (R141, R312). -/
theorem fireEvent_phase (s : State) :
    (fireEvent s).now = s.now ∧ ((fireEvent s).ev.active = true → s.now < (fireEvent s).ev.deadline) := by
  unfold fireEvent
  split
  · refine ⟨transferTick_now s, fun h => ?_⟩
    rcases transferTick_phase s with ⟨_, h'⟩ | ⟨_, _, h'⟩
    · rw [h'] at h; exact absurd h (by simp)
    · exact h'
  · refine ⟨ackTick_now s, fun h => ?_⟩
    rcases ackTick_phase s with ⟨_, h'⟩ | ⟨_, _, h'⟩
    · rw [h'] at h; exact absurd h (by simp)
    · exact h'
  · exact ⟨rfl, fun h => absurd h (by simp)⟩

/-! ### The passage of time -/

/-- A property that time and firings keep holds after an advance (R280). -/
theorem advanceTo_induct (P : State → Prop) (hnow : ∀ s t, P s → P (s.setNow t)) (hfire : ∀ s, P s → P (fireEvent s))
    (target n : Nat) (s : State) (h : P s) : P (advanceTo target n s) := by
  induction n generalizing s with
  | zero => exact hnow s target h
  | succ n ih =>
    unfold advanceTo
    split
    · exact ih _ (hfire _ (hnow _ _ h))
    · exact hnow s target h

/-! ### A step -/

/-- What a step that answers a next state did (R11, R306). -/
theorem step_next_cases {s s' : State} (h : step s = .next s') :
    (schedulerFirst s = true ∧ exec .evtFire s = .next s') ∨
      (schedulerFirst s = false ∧ s.pending = [] ∧ s' = s) ∨
      (schedulerFirst s = false ∧ ∃ op rest i, s.pending = op :: rest ∧ decodeOp op = .ok i ∧
        exec i (s.setPending rest) = .next s') := by
  unfold step at h
  split at h
  · exact .inl ⟨by assumption, h⟩
  · rename_i hs
    have hs' : schedulerFirst s = false := by simpa using hs
    split at h
    · rename_i hp
      injection h with h
      exact .inr (.inl ⟨hs', hp, h.symm⟩)
    · rename_i op rest hp
      split at h
      · exact absurd h (by simp)
      · rename_i i hi
        exact .inr (.inr ⟨hs', op, rest, i, hp, hi, h⟩)

/-! ### The device rows -/

/-- What a twist controller's row did. -/
theorem twistRow_next {i : Slot} {ts : TwistState} {f : Twist → Twist × Reply} {s s' : State}
    (h : twistRow i ts f s = .next s') :
    ∃ d, s.ctrlSlot[i] = some (.twist d) ∧ d.ts = ts ∧
      s' = (putController i (some (.twist (f d).1)) s).setReturned (some (.reply (f d).2)) := by
  unfold twistRow twistAt at h
  split at h
  · rename_i d hd
    split at hd
    · rename_i d' hc
      split at hd
      · rename_i hts
        injection hd with hd
        injection h with h
        subst hd
        exact ⟨_, hc, hts, h.symm⟩
      · exact absurd hd (by simp)
    · exact absurd hd (by simp)
  · exact absurd h (by simp)

/-- What a light gun's row did. -/
theorem gunRow_next {i : Slot} {gs : GunState} {f : Gun → Gun × Reply} {s s' : State}
    (h : gunRow i gs f s = .next s') :
    ∃ d, s.ctrlSlot[i] = some (.gun d) ∧ d.gs = gs ∧
      s' = (putController i (some (.gun (f d).1)) s).setReturned (some (.reply (f d).2)) := by
  unfold gunRow gunAt at h
  split at h
  · rename_i d hd
    split at hd
    · rename_i d' hc
      split at hd
      · rename_i hts
        injection hd with hd
        injection h with h
        subst hd
        exact ⟨_, hc, hts, h.symm⟩
      · exact absurd hd (by simp)
    · exact absurd hd (by simp)
  · exact absurd h (by simp)

/-- What an abstract model's row did. -/
theorem modelRow_next {e : State × Option Reply} {s' : State} (h : modelRow e = .next s') :
    ∃ r, e.2 = some r ∧ s' = e.1.setReturned (some (.reply r)) := by
  unfold modelRow at h
  split at h
  · rename_i r hr
    injection h with h
    exact ⟨r, hr, h.symm⟩
  · exact absurd h (by simp)

end Sys2Proof.Machine
end

