-- ==== Sys2Proof/Laws/Control.lean ====
section
/-! SUPPORT. What the composed operations do, said once in the terms the statements use: a transfer's begin and end, the
latching of an answer, the early tick, DATA accesses, CTRL writes and the resets. -/

namespace Sys2Proof.Machine

/-! ## The derived STAT bits -/

theorem recomputed_recompute (st : Word) (tf rf : Bool) (bus : BusState) :
    Recomputed st (recompute st tf rf bus) tf rf bus :=
  fun k => getLsbD_recompute st tf rf bus k

@[simp] theorem recompute_recompute (st : Word) (a b a' b' : Bool) (c c' : BusState) :
    recompute (recompute st a b c) a' b' c' = recompute st a' b' c' := by
  ext k hk
  simp only [← BitVec.getLsbD_eq_getElem, getLsbD_recompute]
  split_ifs <;> rfl

/-- A state whose STAT was recomputed last is not changed by another recompute. -/
theorem updateStatus_of_stat {s : State} {st : Word}
    (h : s.stat = recompute st s.transmitFull s.receiveFull s.busState) : updateStatus s = s := by
  show s.setStat (recompute s.stat s.transmitFull s.receiveFull s.busState) = s
  rw [h, recompute_recompute, ← h]
  rfl

@[simp] theorem updateStatus_updateStatus (s : State) : updateStatus (updateStatus s) = updateStatus s :=
  updateStatus_of_stat (st := s.stat) rfl

@[simp] theorem updateStatus_beginTransfer (s : State) : updateStatus (beginTransfer s) = beginTransfer s :=
  updateStatus_of_stat (st := s.stat) rfl

@[simp] theorem updateStatus_endTransfer (s : State) : updateStatus (endTransfer s) = endTransfer s :=
  updateStatus_of_stat (st := s.stat) rfl

@[simp] theorem updateStatus_softReset (s : State) : updateStatus (softReset s) = softReset s :=
  updateStatus_of_stat (st := 0#32) rfl

/-! ## Begin, end, latch -/

theorem canTransfer_iff_startReady (s : State) : canTransfer s = true ↔ StartReady s := by
  unfold canTransfer StartReady selected txen
  cases s.transmitFull <;> cases s.ctrl.getLsbD 1 <;> cases s.ctrl.getLsbD 0 <;>
    cases s.params.startRequiresRxEmpty <;> cases s.receiveFull <;> simp

theorem beginTransfer_begun (s : State) : Begun s (beginTransfer s) := by
  refine ⟨withRxen s.ctrl, recompute s.stat false s.receiveFull .transmitting, s.draws + 1, fun k => ?_,
    recomputed_recompute _ _ _ _, ?_⟩
  · rw [withRxen, getLsbD_setBit]
    by_cases h : 2 = k
    · subst h; simp
    · simp [h, show ¬k = 2 by omega]
  · have hm : max 1 (Config.transferTicks s.mode s.baud) = Config.transferTicks s.mode s.baud := by
      unfold Config.transferTicks; omega
    conv_rhs => rw [← hm]
    rfl

theorem endTransfer_ended (s : State) : Ended s (endTransfer s) :=
  ⟨_, s.ev.deadline, recomputed_recompute _ _ _ _, rfl⟩

/-- What a tick latches, where `n` is the acknowledge delay of the class that answered. -/
theorem latch_latched (r : Reply) (p : Port) (s : State) (n : Nat) (hn : r.ack = true → ackTicks p s = n) :
    Latched r n s (latch r p s) := by
  cases h : r.ack with
  | true =>
    rw [← hn h, latch_ack r p s h]
    exact ⟨_, _, 0, .inl ⟨h, recomputed_recompute s.stat s.transmitFull true .waitingForAck, rfl⟩⟩
  | false =>
    rw [latch_nack r p s h]
    exact ⟨_, 0, s.ev.deadline, .inr ⟨h, recomputed_recompute s.stat s.transmitFull true .idle, rfl⟩⟩

/-! ## The transfer tick's place and the early tick -/

theorem selectedPort_of_looks {s : State} {p : Port} {k : Slot} (h : Looks s p k) : selectedPort s = p := by
  apply Fin.ext
  rw [h.1, selectedPort, portOf]
  cases s.ctrl.getLsbD 13 <;> rfl

theorem deviceIndex_of_looks {s : State} {p : Port} {k : Slot} (h : Looks s p k) : deviceIndex p s = k := by
  rcases h.2 with ⟨h1, h2⟩ | ⟨h1, h2⟩
  · rw [deviceIndex, tapAttached, h1]
    exact Fin.ext h2.symm
  · rw [deviceIndex, tapAttached, if_pos (Option.isSome_iff_ne_none.2 h1), h2]

theorem invokeEarly_of_notForced {s : State} (h : NotForced s) : invokeEarly s = s := by
  refine if_neg ?_
  rintro ⟨h1, h2⟩
  rcases h with h | ⟨h, h'⟩
  · exact h h1
  · rcases h2 with h2 | h2
    · rw [h] at h2; cases h2
    · omega

theorem notForced_transferTick (s : State) : NotForced (transferTick s) := by
  left
  rcases transferTick_phase s with ⟨h, _⟩ | ⟨h, _⟩ <;> rw [h] <;> simp

/-! ## DATA writes -/

theorem writeData_eq (v : Word) (s : State) :
    writeData v s =
      if s.busState = .idle ∧ canTransfer ((s.setTransmitBuffer (v.setWidth 8)).setTransmitFull true) = true then
        beginTransfer ((s.setTransmitBuffer (v.setWidth 8)).setTransmitFull true)
      else updateStatus ((s.setTransmitBuffer (v.setWidth 8)).setTransmitFull true) := by
  have e : writeData v s = updateStatus
      (if s.busState = .idle ∧ canTransfer ((s.setTransmitBuffer (v.setWidth 8)).setTransmitFull true) = true then
        beginTransfer ((s.setTransmitBuffer (v.setWidth 8)).setTransmitFull true)
      else (s.setTransmitBuffer (v.setWidth 8)).setTransmitFull true) := rfl
  rw [e, apply_ite updateStatus, updateStatus_beginTransfer]

/-! ## Resets -/

theorem map_option_idem {α : Type} {n : Nat} (f : α → α) (hf : ∀ x, f (f x) = f x) (v : Vector (Option α) n) :
    (v.map (Option.map f)).map (Option.map f) = v.map (Option.map f) := by
  rw [Vector.map_map]
  congr 1
  funext x
  cases x <;> simp [hf]

@[simp] theorem resetController_resetController (c : Controller) :
    resetController (resetController c) = resetController c := by
  cases c <;> rfl

/-- Resetting every device twice is resetting it once. -/
theorem resetDevices_resetDevices (s : State) : resetDevices (resetDevices s) = resetDevices s := by
  have h1 := map_option_idem resetController resetController_resetController s.ctrlSlot
  have h2 := map_option_idem resetCard (fun _ => rfl) s.cardSlot
  have h3 := map_option_idem resetTap (fun _ => rfl) s.tap
  apply State.ext <;> first | rfl | assumption

theorem softReset_afterReset (s : State) : AfterReset s (softReset s) := by
  refine ⟨s.ev.deadline, ?_⟩
  have h := softReset_stat s
  apply State.ext <;> first | rfl | exact h

/-- A CTRL write whose value has `RESET` set is a soft reset, whatever its other bits. -/
theorem storeCtrl_of_reset (c : BitVec 16) (s : State) (h : c.getLsbD 6 = true) : storeCtrl c s = softReset s := by
  have e1 : storeCtrl c s = applyCtrl (if resetBit c then softReset s else s.setCtrl c) := rfl
  have e2 : applyCtrl (softReset s) = updateStatus ((resetDevices (softReset s)).setActiveDevice .none) := by
    simp [applyCtrl, ackBit, selected, txen, deselectAll]
  have e3 : (resetDevices (softReset s)).setActiveDevice .none = softReset s := by
    have h1 := map_option_idem resetController resetController_resetController s.ctrlSlot
    have h2 := map_option_idem resetCard (fun _ => rfl) s.cardSlot
    have h3 := map_option_idem resetTap (fun _ => rfl) s.tap
    apply State.ext <;> first | rfl | assumption
  rw [e1, show resetBit c = true from h, if_pos rfl, e2, e3, updateStatus_softReset]

/-- A CTRL write whose value has `RESET` clear stores the value and goes through steps (b) to (d). -/
theorem storeCtrl_of_not_reset (c : BitVec 16) (s : State) (h : c.getLsbD 6 = false) :
    storeCtrl c s = applyCtrl (s.setCtrl c) := by
  have e1 : storeCtrl c s = applyCtrl (if resetBit c then softReset (s.setCtrl c) else s.setCtrl c) := rfl
  rw [e1, show resetBit c = false from h, if_neg Bool.false_ne_true]

/-! ## CTRL writes -/

/-- The value stored, and `INTR` cleared where it has `ACK` set: steps before (c) of a CTRL write. -/
def ctrlStored (c : BitVec 16) (s : State) : State :=
  if ackBit c then clearIrq (s.setCtrl c) else s.setCtrl c

@[simp] theorem ctrlStored_ctrl (c : BitVec 16) (s : State) : (ctrlStored c s).ctrl = c := by
  unfold ctrlStored; split <;> rfl
@[simp] theorem ctrlStored_busState (c : BitVec 16) (s : State) : (ctrlStored c s).busState = s.busState := by
  unfold ctrlStored; split <;> rfl
@[simp] theorem ctrlStored_transmitFull (c : BitVec 16) (s : State) : (ctrlStored c s).transmitFull = s.transmitFull := by
  unfold ctrlStored; split <;> rfl
@[simp] theorem ctrlStored_receiveFull (c : BitVec 16) (s : State) : (ctrlStored c s).receiveFull = s.receiveFull := by
  unfold ctrlStored; split <;> rfl
@[simp] theorem ctrlStored_ev (c : BitVec 16) (s : State) : (ctrlStored c s).ev = s.ev := by
  unfold ctrlStored; split <;> rfl

theorem ctrlStored_spec (c : BitVec 16) (s : State) : CtrlStored c s (ctrlStored c s) := by
  unfold ctrlStored
  cases h : ackBit c with
  | true =>
    refine ⟨withIntr s.stat false, fun k => ?_, rfl⟩
    rw [withIntr, getLsbD_setBit, show c.getLsbD 4 = true from h]
    by_cases hk : 9 = k
    · subst hk; simp
    · simp [hk, show ¬k = 9 by omega]
  | false =>
    refine ⟨s.stat, fun k => ?_, rfl⟩
    rw [show c.getLsbD 4 = false from h]
    simp

/-- Steps (c) and (d) of a CTRL write, on the state that steps (a) and (b) leave. -/
theorem applyCtrl_setCtrl (c : BitVec 16) (s : State) :
    applyCtrl (s.setCtrl c) =
      let b := ctrlStored c s
      let d := if selected b.ctrl then b else deselectAll b
      updateStatus
        (if selected d.ctrl && txen d.ctrl then if d.busState = .idle ∧ canTransfer d = true then beginTransfer d else d
          else if d.busState = .idle then d else endTransfer d) := rfl

/-- With `SELECT` clear: every device deselected, and a transfer in flight ended. -/
theorem applyCtrl_of_deselect (c : BitVec 16) (s : State) (h : c.getLsbD 1 = false) :
    applyCtrl (s.setCtrl c) =
      if s.busState = .idle then updateStatus (deselectAll (ctrlStored c s))
      else endTransfer (deselectAll (ctrlStored c s)) := by
  have hs : selected c = false := h
  simp only [applyCtrl_setCtrl, ctrlStored_ctrl, hs, Bool.false_eq_true, if_false, deselectAll_ctrl, Bool.false_and,
    deselectAll_busState, ctrlStored_busState, apply_ite updateStatus, updateStatus_endTransfer]

/-- With `SELECT` set and `TXEN` clear: a transfer in flight ended. -/
theorem applyCtrl_of_transmit_off (c : BitVec 16) (s : State) (h1 : c.getLsbD 1 = true) (h0 : c.getLsbD 0 = false) :
    applyCtrl (s.setCtrl c) =
      if s.busState = .idle then updateStatus (ctrlStored c s) else endTransfer (ctrlStored c s) := by
  have hs : selected c = true := h1
  have ht : txen c = false := h0
  simp only [applyCtrl_setCtrl, ctrlStored_ctrl, hs, ht, if_true, Bool.and_false, Bool.false_eq_true, if_false,
    ctrlStored_busState, apply_ite updateStatus, updateStatus_endTransfer]

/-- With `SELECT` and `TXEN` set: a queued byte begun where the bus is idle. -/
theorem applyCtrl_of_start (c : BitVec 16) (s : State) (h1 : c.getLsbD 1 = true) (h0 : c.getLsbD 0 = true) :
    applyCtrl (s.setCtrl c) =
      if s.busState = .idle ∧ canTransfer (ctrlStored c s) = true then beginTransfer (ctrlStored c s)
      else updateStatus (ctrlStored c s) := by
  have hs : selected c = true := h1
  have ht : txen c = true := h0
  simp only [applyCtrl_setCtrl, ctrlStored_ctrl, hs, ht, if_true, Bool.and_self, ctrlStored_busState,
    apply_ite updateStatus, updateStatus_beginTransfer]

end Sys2Proof.Machine
end

