-- ==== Sys2Proof/Laws/Decode.lean ====
section
/-! SUPPORT. The fields of operation words, read back and put together again, and what the decoder does with a word whose fields
are known. -/

namespace Sys2Proof

/-- The fields of a `BUS` word (R91). -/
theorem busWord_fields (wr : Bool) (w : Width) (off : BitVec 4) :
    ((busWord wr w off).extractLsb' 14 2).toNat = (if wr then 1 else 0) ∧
      widthOfBits ((busWord wr w off).extractLsb' 12 2).toNat = some w ∧
      (busWord wr w off).extractLsb' 4 8 = 0#8 ∧ (busWord wr w off).extractLsb' 0 4 = off := by
  have key : ∀ n : Fin 16, ((busWord wr w (BitVec.ofFin n)).extractLsb' 14 2).toNat = (if wr then 1 else 0) ∧
      widthOfBits ((busWord wr w (BitVec.ofFin n)).extractLsb' 12 2).toNat = some w ∧
      (busWord wr w (BitVec.ofFin n)).extractLsb' 4 8 = 0#8 ∧
      (busWord wr w (BitVec.ofFin n)).extractLsb' 0 4 = BitVec.ofFin n := by
    cases w <;> cases wr <;> decide
  exact key off.toFin

/-- A register read's word decodes to the raw read (R93). -/
theorem decodeOp_busRead (w : Width) (off : BitVec 4) :
    decodeOp { word := busWord false w off, operand := .none } = .ok (rawRead w off) := by
  obtain ⟨h1, h2, h3, h4⟩ := busWord_fields false w off
  simp only [decodeOp, decodeBus, h1, h2, h3, h4, Bool.false_eq_true, if_false, if_true]

/-- A register write's word decodes to the raw write (R93). -/
theorem decodeOp_busWrite (w : Width) (off : BitVec 4) (v : Word) :
    decodeOp { word := busWord true w off, operand := .value v } = .ok (rawWrite w off v) := by
  obtain ⟨h1, h2, h3, h4⟩ := busWord_fields true w off
  simp only [decodeOp, decodeBus, h1, h2, h3, h4, if_true]

/-- The value of a `HOST` word (R96). -/
theorem hostWord_toNat (hop : BitVec 6) (arg : Nat) (h : arg < 256) :
    (hostWord hop arg).toNat = 0xC000 + hop.toNat * 256 + arg := by
  have h1 := hop.isLt
  unfold hostWord
  rw [BitVec.toNat_append, BitVec.toNat_append, BitVec.toNat_ofNat, BitVec.toNat_ofNat, Nat.mod_eq_of_lt (by omega : arg < 2 ^ 8),
    ← Nat.shiftLeft_add_eq_or_of_lt (by omega : arg < 2 ^ 8), ← Nat.shiftLeft_add_eq_or_of_lt h1]
  simp only [Nat.shiftLeft_eq]
  omega

/-- The fields of a `HOST` word (R96). -/
theorem hostWord_fields (hop : BitVec 6) (arg : Nat) (h : arg < 256) :
    ((hostWord hop arg).extractLsb' 14 2).toNat = 3 ∧ (hostWord hop arg).extractLsb' 8 6 = hop ∧
      ((hostWord hop arg).extractLsb' 0 8).toNat = arg := by
  have h1 := hop.isLt
  refine ⟨?_, BitVec.eq_of_toNat_eq ?_, ?_⟩ <;>
    rw [BitVec.extractLsb'_toNat, hostWord_toNat hop arg h, Nat.shiftRight_eq_div_pow] <;> omega

/-- A host operation's word is decoded by its `HOP` and `ARG` (R96). -/
theorem decodeOp_host (hop : BitVec 6) (arg : Nat) (h : arg < 256) (o : Operand) :
    decodeOp { word := hostWord hop arg, operand := o } = decodeHost hop.toNat arg o := by
  obtain ⟨h1, h2, h3⟩ := hostWord_fields hop arg h
  simp only [decodeOp, h1, h2, h3]

/-- A 16-bit word is fixed by its fields `op[15:14]`, `op[13:12]`, `op[11:4]` and `op[3:0]` (R90, R91). -/
theorem word_ext_bus {v w : BitVec 16} (h1 : v.extractLsb' 14 2 = w.extractLsb' 14 2)
    (h2 : v.extractLsb' 12 2 = w.extractLsb' 12 2) (h3 : v.extractLsb' 4 8 = w.extractLsb' 4 8)
    (h4 : v.extractLsb' 0 4 = w.extractLsb' 0 4) : v = w := by
  have h1 := congrArg BitVec.toNat h1
  have h2 := congrArg BitVec.toNat h2
  have h3 := congrArg BitVec.toNat h3
  have h4 := congrArg BitVec.toNat h4
  simp only [BitVec.extractLsb'_toNat, Nat.shiftRight_eq_div_pow] at h1 h2 h3 h4
  have := v.isLt
  have := w.isLt
  exact BitVec.eq_of_toNat_eq (by omega)

/-- A 16-bit word is fixed by its fields `op[15:14]`, `op[13:8]` and `op[7:0]` (R90, R96). -/
theorem word_ext_host {v w : BitVec 16} (h1 : v.extractLsb' 14 2 = w.extractLsb' 14 2)
    (h2 : v.extractLsb' 8 6 = w.extractLsb' 8 6) (h3 : v.extractLsb' 0 8 = w.extractLsb' 0 8) : v = w := by
  have h1 := congrArg BitVec.toNat h1
  have h2 := congrArg BitVec.toNat h2
  have h3 := congrArg BitVec.toNat h3
  simp only [BitVec.extractLsb'_toNat, Nat.shiftRight_eq_div_pow] at h1 h2 h3
  have := v.isLt
  have := w.isLt
  exact BitVec.eq_of_toNat_eq (by omega)

/-- A 16-bit word is fixed by its fields `op[15:14]` and `op[13:0]` (R90, R95). -/
theorem word_ext_event {v w : BitVec 16} (h1 : v.extractLsb' 14 2 = w.extractLsb' 14 2)
    (h2 : v.extractLsb' 0 14 = w.extractLsb' 0 14) : v = w := by
  have h1 := congrArg BitVec.toNat h1
  have h2 := congrArg BitVec.toNat h2
  simp only [BitVec.extractLsb'_toNat, Nat.shiftRight_eq_div_pow] at h1 h2
  have := v.isLt
  have := w.isLt
  exact BitVec.eq_of_toNat_eq (by omega)

/-- An access that names no register is `RD.UNDEF`. -/
theorem rawRead_undefined (w : Width) (off : BitVec 4) (h : busReg w off = none) : rawRead w off = .rdUndef w off := by
  unfold rawRead
  rw [h]

/-- An access that names no register is `WR.UNDEF`. -/
theorem rawWrite_undefined (w : Width) (off : BitVec 4) (v : Word) (h : busReg w off = none) :
    rawWrite w off v = .wrUndef w off v := by
  unfold rawWrite
  rw [h]

end Sys2Proof
end

