-- ==== Sys2Proof/Laws/Restore.lean ====
section
/-! SUPPORT. What a restore leaves and writes, field by field (R282 to R286). -/

namespace Sys2Proof.Machine

variable (has : SnapField → Bool) (img : Image) (s : State)

/-! ### `pickBits` -/

theorem getLsbD_pickAmong {n : Nat} (held : Fin n → Bool) (r v : BitVec n) (bits : List (Fin n)) (k : Fin n) :
    (pickAmong held r v bits).getLsbD k = if k ∈ bits then pick (held k) (r.getLsbD k) (v.getLsbD k) else v.getLsbD k := by
  induction bits with
  | nil => simp [pickAmong]
  | cons j bits ih =>
    rw [pickAmong, getLsbD_setBit, ih]
    by_cases h : j = k
    · subst h; simp
    · have h' : ¬ j.val = k.val := fun e => h (Fin.ext e)
      simp [h', Ne.symm h]

/-- Each bit of a value restored bit by bit is the recorded one where the version holds it, else the live one (R286). -/
@[simp] theorem getLsbD_pickBits {n : Nat} (held : Fin n → Bool) (r v : BitVec n) (k : Fin n) :
    (pickBits held r v).getLsbD k = pick (held k) (r.getLsbD k) (v.getLsbD k) := by
  rw [pickBits, getLsbD_pickAmong, if_pos (List.mem_finRange k)]

/-- A bit that is 0 in the recorded and in the live value is 0 after the restore. -/
theorem pickBits_clear {n : Nat} (held : Fin n → Bool) {r v : BitVec n} {k : Nat} (hr : r.getLsbD k = false)
    (hv : v.getLsbD k = false) : (pickBits held r v).getLsbD k = false := by
  by_cases hk : k < n
  · rw [getLsbD_pickBits held r v ⟨k, hk⟩, hr, hv, pick, ite_self]
  · exact BitVec.getLsbD_of_ge _ _ (Nat.le_of_not_lt hk)

/-- A version that holds every bit gives the recorded value. -/
theorem pickBits_all {n : Nat} (held : Fin n → Bool) (r v : BitVec n) (h : ∀ k, held k = true) : pickBits held r v = r := by
  apply BitVec.eq_of_getLsbD_eq
  intro k hk
  rw [getLsbD_pickBits held r v ⟨k, hk⟩, h, pick, if_pos rfl]

/-! ### `restoreEvent` -/

@[simp] theorem restoreEvent_ctrl : (restoreEvent has img s).ctrl = s.ctrl := by unfold restoreEvent; split <;> rfl
@[simp] theorem restoreEvent_stat : (restoreEvent has img s).stat = s.stat := by unfold restoreEvent; split <;> rfl
@[simp] theorem restoreEvent_mode : (restoreEvent has img s).mode = s.mode := by unfold restoreEvent; split <;> rfl
@[simp] theorem restoreEvent_baud : (restoreEvent has img s).baud = s.baud := by unfold restoreEvent; split <;> rfl
@[simp] theorem restoreEvent_transmitBuffer : (restoreEvent has img s).transmitBuffer = s.transmitBuffer := by unfold restoreEvent; split <;> rfl
@[simp] theorem restoreEvent_transmitFull : (restoreEvent has img s).transmitFull = s.transmitFull := by unfold restoreEvent; split <;> rfl
@[simp] theorem restoreEvent_receiveBuffer : (restoreEvent has img s).receiveBuffer = s.receiveBuffer := by unfold restoreEvent; split <;> rfl
@[simp] theorem restoreEvent_receiveFull : (restoreEvent has img s).receiveFull = s.receiveFull := by unfold restoreEvent; split <;> rfl
@[simp] theorem restoreEvent_inFlight : (restoreEvent has img s).inFlight = s.inFlight := by unfold restoreEvent; split <;> rfl
@[simp] theorem restoreEvent_busState : (restoreEvent has img s).busState = s.busState := by unfold restoreEvent; split <;> rfl
@[simp] theorem restoreEvent_activeDevice : (restoreEvent has img s).activeDevice = s.activeDevice := by unfold restoreEvent; split <;> rfl
@[simp] theorem restoreEvent_now : (restoreEvent has img s).now = s.now := by unfold restoreEvent; split <;> rfl
@[simp] theorem restoreEvent_ctrlSlot : (restoreEvent has img s).ctrlSlot = s.ctrlSlot := by unfold restoreEvent; split <;> rfl
@[simp] theorem restoreEvent_cardSlot : (restoreEvent has img s).cardSlot = s.cardSlot := by unfold restoreEvent; split <;> rfl
@[simp] theorem restoreEvent_tap : (restoreEvent has img s).tap = s.tap := by unfold restoreEvent; split <;> rfl
@[simp] theorem restoreEvent_outputs : (restoreEvent has img s).outputs = s.outputs := by unfold restoreEvent; split <;> rfl
@[simp] theorem restoreEvent_restoreFailed : (restoreEvent has img s).restoreFailed = s.restoreFailed := by unfold restoreEvent; split <;> rfl
@[simp] theorem restoreEvent_params : (restoreEvent has img s).params = s.params := by unfold restoreEvent; split <;> rfl
@[simp] theorem restoreEvent_pending : (restoreEvent has img s).pending = s.pending := by unfold restoreEvent; split <;> rfl
@[simp] theorem restoreEvent_returned : (restoreEvent has img s).returned = s.returned := by unfold restoreEvent; split <;> rfl
@[simp] theorem restoreEvent_ev : (restoreEvent has img s).ev = restoredEvent has img s := by
  unfold restoreEvent restoredEvent pick
  cases has .evActive <;> cases has .evRemaining <;> rfl
@[simp] theorem restoreEvent_draws :
    (restoreEvent has img s).draws = pick (has .evActive || has .evRemaining) (s.draws + 1) s.draws := by
  unfold restoreEvent pick; split <;> rfl

/-! ### `restoreDevices` -/

/-- Restoring the devices changes the slots and the multitaps only. -/
theorem restoreDevices_spec :
    ∃ c k t, restoreDevices has img s = ((s.setCtrlSlot c).setCardSlot k).setTap t := ⟨_, _, _, rfl⟩

/-! ### `restoreImage` -/

@[simp] theorem restoreImage_ctrl : (restoreImage has img s).ctrl = pickBits (fun k => has (.ctrl k)) img.ctrl s.ctrl :=
  restoreEvent_ctrl has img (restoreRegisters has img s)
@[simp] theorem restoreImage_mode : (restoreImage has img s).mode = pick (has .mode) img.mode s.mode :=
  restoreEvent_mode has img (restoreRegisters has img s)
@[simp] theorem restoreImage_baud : (restoreImage has img s).baud = pick (has .baud) img.baud s.baud :=
  restoreEvent_baud has img (restoreRegisters has img s)
@[simp] theorem restoreImage_transmitBuffer : (restoreImage has img s).transmitBuffer = pick (has .transmitBuffer) img.transmitBuffer s.transmitBuffer :=
  restoreEvent_transmitBuffer has img (restoreRegisters has img s)
@[simp] theorem restoreImage_transmitFull : (restoreImage has img s).transmitFull = pick (has .transmitFull) img.transmitFull s.transmitFull :=
  restoreEvent_transmitFull has img (restoreRegisters has img s)
@[simp] theorem restoreImage_receiveBuffer : (restoreImage has img s).receiveBuffer = pick (has .receiveBuffer) img.receiveBuffer s.receiveBuffer :=
  restoreEvent_receiveBuffer has img (restoreRegisters has img s)
@[simp] theorem restoreImage_receiveFull : (restoreImage has img s).receiveFull = pick (has .receiveFull) img.receiveFull s.receiveFull :=
  restoreEvent_receiveFull has img (restoreRegisters has img s)
@[simp] theorem restoreImage_inFlight : (restoreImage has img s).inFlight = pick (has .inFlight) img.inFlight s.inFlight :=
  restoreEvent_inFlight has img (restoreRegisters has img s)
@[simp] theorem restoreImage_busState : (restoreImage has img s).busState = pick (has .busState) img.busState s.busState :=
  restoreEvent_busState has img (restoreRegisters has img s)
@[simp] theorem restoreImage_activeDevice : (restoreImage has img s).activeDevice = pick (has .activeDevice) img.activeDevice s.activeDevice :=
  restoreEvent_activeDevice has img (restoreRegisters has img s)
@[simp] theorem restoreImage_now : (restoreImage has img s).now = s.now :=
  restoreEvent_now has img (restoreRegisters has img s)
@[simp] theorem restoreImage_outputs : (restoreImage has img s).outputs = s.outputs :=
  restoreEvent_outputs has img (restoreRegisters has img s)
@[simp] theorem restoreImage_restoreFailed : (restoreImage has img s).restoreFailed = s.restoreFailed :=
  restoreEvent_restoreFailed has img (restoreRegisters has img s)
@[simp] theorem restoreImage_params : (restoreImage has img s).params = s.params :=
  restoreEvent_params has img (restoreRegisters has img s)
@[simp] theorem restoreImage_pending : (restoreImage has img s).pending = s.pending :=
  restoreEvent_pending has img (restoreRegisters has img s)
@[simp] theorem restoreImage_returned : (restoreImage has img s).returned = s.returned :=
  restoreEvent_returned has img (restoreRegisters has img s)
@[simp] theorem restoreImage_draws :
    (restoreImage has img s).draws = pick (has .evActive || has .evRemaining) (s.draws + 1) s.draws :=
  restoreEvent_draws has img (restoreRegisters has img s)
@[simp] theorem restoreImage_ev : (restoreImage has img s).ev = restoredEvent has img s :=
  restoreEvent_ev has img (restoreRegisters has img s)

/-- The restored STAT: the recorded or the live one, with the derived flags recomputed (R52, R282, log 21). -/
theorem restoreImage_stat :
    (restoreImage has img s).stat =
      recompute (pickBits (fun k => has (.stat k)) img.stat s.stat) (restoreImage has img s).transmitFull (restoreImage has img s).receiveFull
        (restoreImage has img s).busState := by
  have h : (restoreImage has img s).stat = recompute (restoreEvent has img (restoreRegisters has img s)).stat
      (restoreImage has img s).transmitFull (restoreImage has img s).receiveFull (restoreImage has img s).busState := rfl
  rw [h, restoreEvent_stat]
  rfl

/-- What a restore leaves in the controller slots (R283, R286). -/
theorem restoreImage_ctrlSlot :
    (restoreImage has img s).ctrlSlot =
      Vector.ofFn fun i : Slot => s.ctrlSlot[i].map (restoreController s.params has i img.ctrlSlot[i]) := by
  have h : (restoreImage has img s).ctrlSlot = Vector.ofFn fun i : Slot =>
      (restoreEvent has img (restoreRegisters has img s)).ctrlSlot[i].map
        (restoreController (restoreEvent has img (restoreRegisters has img s)).params has i img.ctrlSlot[i]) := rfl
  rw [h, restoreEvent_ctrlSlot, restoreEvent_params]
  rfl

/-- What a restore leaves in the card slots (R284, R286). -/
theorem restoreImage_cardSlot :
    (restoreImage has img s).cardSlot =
      Vector.ofFn fun i : Slot => s.cardSlot[i].map (restoreCard has i img.cardSlot[i]) := by
  have h : (restoreImage has img s).cardSlot = Vector.ofFn fun i : Slot =>
      (restoreEvent has img (restoreRegisters has img s)).cardSlot[i].map (restoreCard has i img.cardSlot[i]) := rfl
  rw [h, restoreEvent_cardSlot]
  rfl

/-- What a restore leaves in the multitaps (R281, R286, log 28). -/
theorem restoreImage_tap :
    (restoreImage has img s).tap = Vector.ofFn fun p : Port => s.tap[p].map (restoreTap has p img.tap[p]) := by
  have h : (restoreImage has img s).tap = Vector.ofFn fun p : Port =>
      (restoreEvent has img (restoreRegisters has img s)).tap[p].map (restoreTap has p img.tap[p]) := rfl
  rw [h, restoreEvent_tap]
  rfl

end Sys2Proof.Machine
end

