-- ==== Sys2Proof/Tests/Slice0.lean ====
section
/-! SUPPORT. The model's own tests. Every expected value comes from the spec: the decode words from the formats of
30_encoding.md, the results from the vectors of 95_test_vectors.md (their ids stand in the docstrings), the witnesses from
small concrete states. No test rests on an open parameter. -/

namespace Sys2Proof.Tests

open Sys2Proof Sys2Proof.Machine

/-! ## Well-formedness: an ill-formed term for each check -/

theorem test_wf_rdUndef_names_register : (Instr.rdUndef .w16 0xA#4).wellFormed = false := by decide
theorem test_wf_rdUndef_ok : (Instr.rdUndef .w32 0xA#4).wellFormed = true := by decide
theorem test_wf_wrUndef_names_register : (Instr.wrUndef .w8 0x0#4 7#32).wellFormed = false := by decide
theorem test_wf_wrUndef_ok : (Instr.wrUndef .w8 0xB#4 7#32).wellFormed = true := by decide
theorem test_wf_twIdleMiss_select : (Instr.twIdleMiss 0 0x01#8).wellFormed = false := by decide
theorem test_wf_twReadyMiss_class : (Instr.twReadyMiss 0 0x42#8).wellFormed = false := by decide
theorem test_wf_gunIdleMiss_select : (Instr.gunIdleMiss 0 0x01#8).wellFormed = false := by decide
theorem test_wf_gunReadyMiss_class : (Instr.gunReadyMiss 0 0x42#8).wellFormed = false := by decide
theorem test_wf_restore_untied :
    (Instr.restore (.intact 0 { (default : Image) with evActive := true })).wellFormed = false := by decide
theorem test_wf_restore_overdue :
    (Instr.restore (.intact 0 { (default : Image) with
      evActive := true, busState := .transmitting, evRemaining := 0 })).wellFormed = false := by decide
theorem test_wf_restore_reserved :
    (Instr.restore (.intact 0 { (default : Image) with stat := 0x8#32 })).wellFormed = false := by decide
theorem test_wf_restore_ok :
    (Instr.restore (.intact 0 { (default : Image) with
      evActive := true, busState := .waitingForAck, evRemaining := 1, stat := 0x287#32 })).wellFormed = true := by decide

/-! ## Decoding: every constructor's word, written out from its format -/

/-- `K = 00`, `W`, `Z = 0`, `OFF` (R91, R93). -/
theorem test_decode_reads :
    decodeOp ⟨0b0000000000000000#16, .none⟩ = .ok .rdData8 ∧ decodeOp ⟨0b0001000000000000#16, .none⟩ = .ok .rdData16 ∧
    decodeOp ⟨0b0010000000000000#16, .none⟩ = .ok .rdData32 ∧ decodeOp ⟨0b0000000000000100#16, .none⟩ = .ok .rdStat8 ∧
    decodeOp ⟨0b0001000000000100#16, .none⟩ = .ok .rdStat16 ∧ decodeOp ⟨0b0010000000000100#16, .none⟩ = .ok .rdStat32 ∧
    decodeOp ⟨0b0000000000001000#16, .none⟩ = .ok .rdMode8 ∧ decodeOp ⟨0b0001000000001000#16, .none⟩ = .ok .rdMode16 ∧
    decodeOp ⟨0b0010000000001000#16, .none⟩ = .ok .rdModectrl ∧ decodeOp ⟨0b0000000000001010#16, .none⟩ = .ok .rdCtrl8 ∧
    decodeOp ⟨0b0001000000001010#16, .none⟩ = .ok .rdCtrl16 ∧ decodeOp ⟨0b0000000000001110#16, .none⟩ = .ok .rdBaud8 ∧
    decodeOp ⟨0b0001000000001110#16, .none⟩ = .ok .rdBaud16 :=
  ⟨rfl, rfl, rfl, rfl, rfl, rfl, rfl, rfl, rfl, rfl, rfl, rfl, rfl⟩

/-- `K = 01`, `W`, `Z = 0`, `OFF`, with the 32-bit operand beside the word (R91, R92, R93). -/
theorem test_decode_writes :
    decodeOp ⟨0b0100000000000000#16, .value 0x42#32⟩ = .ok (.wrData8 0x42#32) ∧
    decodeOp ⟨0b0101000000000000#16, .value 0xABCD#32⟩ = .ok (.wrData16 0xABCD#32) ∧
    decodeOp ⟨0b0110000000000000#16, .value 0x12345678#32⟩ = .ok (.wrData32 0x12345678#32) ∧
    decodeOp ⟨0b0100000000000100#16, .value 1#32⟩ = .ok (.wrStat8 1#32) ∧
    decodeOp ⟨0b0101000000000100#16, .value 2#32⟩ = .ok (.wrStat16 2#32) ∧
    decodeOp ⟨0b0110000000000100#16, .value 3#32⟩ = .ok (.wrStat32 3#32) ∧
    decodeOp ⟨0b0100000000001000#16, .value 4#32⟩ = .ok (.wrMode8 4#32) ∧
    decodeOp ⟨0b0101000000001000#16, .value 5#32⟩ = .ok (.wrMode16 5#32) ∧
    decodeOp ⟨0b0110000000001000#16, .value 0x1003000D#32⟩ = .ok (.wrModectrl 0x1003000D#32) ∧
    decodeOp ⟨0b0100000000001010#16, .value 6#32⟩ = .ok (.wrCtrl8 6#32) ∧
    decodeOp ⟨0b0101000000001010#16, .value 0x1003#32⟩ = .ok (.wrCtrl16 0x1003#32) ∧
    decodeOp ⟨0b0100000000001110#16, .value 7#32⟩ = .ok (.wrBaud8 7#32) ∧
    decodeOp ⟨0b0101000000001110#16, .value 0x88#32⟩ = .ok (.wrBaud16 0x88#32) :=
  ⟨rfl, rfl, rfl, rfl, rfl, rfl, rfl, rfl, rfl, rfl, rfl, rfl, rfl⟩

/-- Words that name no register (E-9 to E-14, R76, R93). -/
theorem test_decode_undefined :
    decodeOp ⟨0x1009#16, .none⟩ = .ok (.rdUndef .w16 0x9#4) ∧ decodeOp ⟨0x200A#16, .none⟩ = .ok (.rdUndef .w32 0xA#4) ∧
    decodeOp ⟨0x000C#16, .none⟩ = .ok (.rdUndef .w8 0xC#4) ∧ decodeOp ⟨0x000B#16, .none⟩ = .ok (.rdUndef .w8 0xB#4) ∧
    decodeOp ⟨0x0001#16, .none⟩ = .ok (.rdUndef .w8 0x1#4) ∧ decodeOp ⟨0x200E#16, .none⟩ = .ok (.rdUndef .w32 0xE#4) ∧
    decodeOp ⟨0x600C#16, .value 0x12345678#32⟩ = .ok (.wrUndef .w32 0xC#4 0x12345678#32) :=
  ⟨rfl, rfl, rfl, rfl, rfl, rfl, rfl⟩

/-- `K = 10` (R95). -/
theorem test_decode_events :
    decodeOp ⟨0b1000000000000000#16, .none⟩ = .ok .evtFire ∧ decodeOp ⟨0b1000000000000001#16, .none⟩ = .ok .evtXfer ∧
    decodeOp ⟨0b1000000000000010#16, .none⟩ = .ok .evtAck :=
  ⟨rfl, rfl, rfl⟩

/-- `K = 11`, `HOP`, `ARG`, with the operands beside the word (R96). -/
theorem test_decode_host :
    decodeOp ⟨0b1100000000000000#16, .ticks 30⟩ = .ok (.advance 30) ∧
    decodeOp ⟨0b1100000100000111#16, .ctrlInit (.twist none)⟩ = .ok (.attachCtrl 7 (.twist none)) ∧
    decodeOp ⟨0b1100001000000110#16, .none⟩ = .ok (.detachCtrl 6) ∧
    decodeOp ⟨0b1100001100000101#16, .card ⟨3, [9#8]⟩⟩ = .ok (.attachCard 5 ⟨3, [9#8]⟩) ∧
    decodeOp ⟨0b1100010000000100#16, .none⟩ = .ok (.detachCard 4) ∧
    decodeOp ⟨0b1100010100000011#16, .none⟩ = .ok (.takeCard 3) ∧
    decodeOp ⟨0b1100011000000001#16, .tap (some ⟨1, 2, 3⟩)⟩ = .ok (.setTap 1 (some ⟨1, 2, 3⟩)) ∧
    decodeOp ⟨0b1100011100000010#16, .button 4 true⟩ = .ok (.setButton 2 4 true) ∧
    decodeOp ⟨0b1100100000000001#16, .axis 3 (.named 5)⟩ = .ok (.setAxis 1 3 (.named 5)) ∧
    decodeOp ⟨0b1100100100000000#16, .pointer (some ⟨.rat 1, .named 2⟩)⟩ = .ok (.setPointer 0 (some ⟨.rat 1, .named 2⟩)) ∧
    decodeOp ⟨0b1100101000000000#16, .none⟩ = .ok .snapshot ∧
    decodeOp ⟨0b1100101100000000#16, .stream .broken⟩ = .ok (.restore .broken) ∧
    decodeOp ⟨0b1100110000000000#16, .none⟩ = .ok .sysreset :=
  ⟨rfl, rfl, rfl, rfl, rfl, rfl, rfl, rfl, rfl, rfl, rfl, rfl, rfl⟩

/-- The byte of each row of the twist controller's packet in its transfer state (R97, R214 to R222). -/
theorem test_decode_twist :
    decodeDev (.twist 0 .idle) 0x01#8 = .twIdleSel 0 ∧ decodeDev (.twist 0 .idle) 0x42#8 = .twIdleMiss 0 0x42#8 ∧
    decodeDev (.twist 0 .ready) 0x42#8 = .twReadyClass 0 ∧ decodeDev (.twist 0 .ready) 0x01#8 = .twReadyMiss 0 0x01#8 ∧
    decodeDev (.twist 0 .idMsb) 0x01#8 = .twIdmsb 0 0x01#8 ∧
    decodeDev (.twist 0 .buttonsLsb) 0x42#8 = .twBtnlsb 0 0x42#8 ∧
    decodeDev (.twist 0 .buttonsMsb) 0#8 = .twBtnmsb 0 0#8 ∧ decodeDev (.twist 0 .steering) 0#8 = .twSteer 0 0#8 ∧
    decodeDev (.twist 0 .axisI) 0#8 = .twAxi 0 0#8 ∧ decodeDev (.twist 0 .axisII) 0#8 = .twAxii 0 0#8 ∧
    decodeDev (.twist 0 .axisL) 0#8 = .twAxl 0 0#8 :=
  ⟨rfl, rfl, rfl, rfl, rfl, rfl, rfl, rfl, rfl, rfl, rfl⟩

/-- The byte of each row of the light gun's packet in its transfer state (R97, R244 to R252). -/
theorem test_decode_gun :
    decodeDev (.gun 1 .idle) 0x01#8 = .gunIdleSel 1 ∧ decodeDev (.gun 1 .idle) 0x42#8 = .gunIdleMiss 1 0x42#8 ∧
    decodeDev (.gun 1 .ready) 0x42#8 = .gunReadyClass 1 ∧ decodeDev (.gun 1 .ready) 0x01#8 = .gunReadyMiss 1 0x01#8 ∧
    decodeDev (.gun 1 .idMsb) 0x01#8 = .gunIdmsb 1 0x01#8 ∧ decodeDev (.gun 1 .buttonsLsb) 0x42#8 = .gunBtnlsb 1 0x42#8 ∧
    decodeDev (.gun 1 .buttonsMsb) 0#8 = .gunBtnmsb 1 0#8 ∧ decodeDev (.gun 1 .xLsb) 0#8 = .gunXlsb 1 0#8 ∧
    decodeDev (.gun 1 .xMsb) 0#8 = .gunXmsb 1 0#8 ∧ decodeDev (.gun 1 .yLsb) 0#8 = .gunYlsb 1 0#8 ∧
    decodeDev (.gun 1 .yMsb) 0#8 = .gunYmsb 1 0#8 :=
  ⟨rfl, rfl, rfl, rfl, rfl, rfl, rfl, rfl, rfl, rfl, rfl⟩

/-- Any byte received by an abstract model (R97, R186 to R188). -/
theorem test_decode_models :
    decodeDev (.pad 2) 0x01#8 = .padTransfer 2 0x01#8 ∧ decodeDev (.card 3) 0x81#8 = .cardTransfer 3 0x81#8 ∧
    decodeDev (.tap 1) 0x42#8 = .tapTransfer 1 0x42#8 :=
  ⟨rfl, rfl, rfl⟩

/-- The words of the pseudo-instructions (R100, E-23, E-24). -/
theorem test_encode_pseudo :
    encode (.select 1) = .op ⟨0x500A#16, .value 0x3003#32⟩ ∧ encode (.selectq 0) = .op ⟨0x500A#16, .value 0x0003#32⟩ ∧
    encode (.ackclr 0x1003#16) = .op ⟨0x500A#16, .value 0x1013#32⟩ ∧
    encode .deselect = .op ⟨0x500A#16, .value 0x0000#32⟩ ∧ encode .sreset = .op ⟨0x500A#16, .value 0x0040#32⟩ ∧
    encode (.send 0x42#8) = .op ⟨0x4000#16, .value 0x42#32⟩ ∧ encode (.wait 30) = .op ⟨0xC000#16, .ticks 30⟩ := by
  decide

/-- Illegal words are refused by name (R94, R96, E-15 to E-20), and so is a missing operand. -/
theorem test_decode_illegal :
    decodeOp ⟨0x3000#16, .none⟩ = .error .reservedWidth ∧ decodeOp ⟨0x0010#16, .none⟩ = .error .nonzeroZ ∧
    decodeOp ⟨0x8003#16, .none⟩ = .error .illegalEvent ∧ decodeOp ⟨0xCD00#16, .none⟩ = .error .illegalHop ∧
    decodeOp ⟨0xC108#16, .ctrlInit (.twist none)⟩ = .error .illegalArg ∧
    decodeOp ⟨0xC602#16, .tap none⟩ = .error .illegalArg ∧ decodeOp ⟨0xC001#16, .ticks 1⟩ = .error .illegalArg ∧
    decodeOp ⟨0x4000#16, .none⟩ = .error .operandMismatch :=
  ⟨rfl, rfl, rfl, rfl, rfl, rfl, rfl, rfl⟩

/-- Assembler lines (R99, R212, R229): a raw undefined offset, an axis name, a button name of each table, a comment. -/
theorem test_assemble :
    assemble (.rawRead .w32 0xC#4) = some [.rdUndef .w32 0xC#4] ∧
    assemble (.axis 0 (.twist .steer) (.rat 1)) = some [.setAxis 0 0 (.rat 1)] ∧
    assemble (.button 0 (.twist .start) true) = some [.setButton 0 4 true] ∧
    assemble (.button 0 (.gun .shootOffscreen) true) = some [.setButton 0 3 true] ∧ assemble .comment = some [] :=
  ⟨rfl, rfl, rfl, rfl, rfl⟩

/-- The table words of the opcode table: the low 16 bits are the word, above them stand operand bits (log 20). -/
theorem test_table_words :
    decodeTableWord 16 0x2004 = some .rdStat32 ∧ decodeTableWord 16 0x500A = some (.wrCtrl16 0#32) ∧
    decodeTableWord 16 0xC700 = some (.setButton 0 0 false) ∧ decodeTableWord 8 0x01 = some (.twIdleSel 0) ∧
    decodeTableWord 8 0x42 = some (.twReadyClass 0) ∧ decodeTableWord 8 0x00 = some (.twIdleMiss 0 0#8) ∧
    decodeTableWord 16 0x3000 = none :=
  ⟨rfl, rfl, rfl, rfl, rfl, rfl, rfl⟩

/-! ## Small states -/

/-- One element of the state an outcome goes on in. -/
def got {α : Type} (f : State → α) : Host.Outcome State Fault Refusal → Option α
  | .next t => some (f t)
  | .fault _ => none
  | .refused _ => none

/-- A twist controller with Start pressed and distinct axis bytes, in transfer state `ts`. -/
def twist (ts : TwistState) : Twist := ⟨ts, ⟨0x2008#16, 0xBF#8, 0x11#8, 0x22#8, 0x7F#8⟩⟩

/-- A light gun with Trigger and B pressed and a latched position, in transfer state `gs`. -/
def gun (gs : GunState) : Gun := ⟨gs, ⟨0x6000#16, false, none⟩, ⟨0x0123#16, 0x4567#16⟩⟩

/-- The reset state with a twist controller in slot 0. -/
def withTw (ts : TwistState) : State := putController 0 (some (.twist (twist ts))) State.reset

/-- The reset state with a light gun in slot 0. -/
def withGu (gs : GunState) : State := putController 0 (some (.gun (gun gs))) State.reset

/-- A due transfer tick of the byte `b`, with CTRL `c`. -/
def tickDue (c : BitVec 16) (b : Byte) (s : State) : State :=
  { s with ctrl := c, stat := 0x001#32, inFlight := b, busState := .transmitting, ev := ⟨true, 10⟩, now := 10 }

/-- A due acknowledge tick, with CTRL `c`. -/
def ackDue (c : BitVec 16) (s : State) : State :=
  { s with
    ctrl := c, stat := 0x007#32, receiveBuffer := 0xFF#8, receiveFull := true
    busState := .waitingForAck, activeDevice := .controller, ev := ⟨true, 30⟩, now := 30 }

/-- The acknowledge tick still to come, with a byte queued. -/
def ackQueued (b : Byte) (s : State) : State :=
  { ackDue 0x1007#16 s with transmitBuffer := b, transmitFull := true, stat := 0x002#32 }

/-- A transfer in flight, its tick not yet due. -/
def inFlightState : State :=
  { withTw .idle with ctrl := 0x1007#16, stat := 0x001#32, inFlight := 0x01#8, busState := .transmitting, ev := ⟨true, 10⟩ }

/-! ## Register accesses -/

/-- R-3. -/
theorem test_rdData32_reset : got (·.outputs) (exec .rdData32 State.reset) = some [.read .w32 0#32] := by decide

/-- R-15: the byte in both lanes; the receive latch is emptied. -/
theorem test_rdData16_lanes :
    got (fun t => (t.outputs, t.receiveFull, t.stat))
      (exec .rdData16 { State.reset with receiveBuffer := 0x5A#8, receiveFull := true, stat := 0x007#32 }) =
      some ([.read .w16 0x5A5A#32], false, 0x005#32) := by decide

/-- R-16: the last byte again. -/
theorem test_rdData8_last :
    got (·.outputs) (exec .rdData8 { State.reset with receiveBuffer := 0x5A#8 }) = some [.read .w8 0x5A#32] := by decide

/-- R-16 with `RX_EMPTY_READ = ALL_ONES`. -/
theorem test_rdData8_all_ones :
    got (·.outputs) (exec .rdData8
      { State.reset with receiveBuffer := 0x5A#8, params := { rxEmptyRead := .allOnes } }) =
      some [.read .w8 0xFF#32] := by decide

/-- X-7: the transfer tick forced by the read. -/
theorem test_rdData8_forces_tick :
    got (fun t => (t.outputs, t.busState, t.stat, t.receiveFull)) (exec .rdData8 inFlightState) =
      some ([.read .w8 0xFF#32], .waitingForAck, 0x005#32, false) := by decide

/-- X-8: nothing forced under `ONLY_IF_DUE`. -/
theorem test_rdData8_only_if_due :
    got (fun t => (t.outputs, t.busState))
      (exec .rdData8 { inFlightState with params := { invokeEarly := .onlyIfDue } }) =
      some ([.read .w8 0#32], .transmitting) := by decide

/-- R-1. -/
theorem test_rdStat32_reset :
    got (fun t => (t.outputs, t.stat)) (exec .rdStat32 State.reset) = some ([.read .w32 5#32], 5#32) := by decide

/-- R-2. -/
theorem test_rdStat8_reset : got (·.outputs) (exec .rdStat8 State.reset) = some [.read .w8 5#32] := by decide

/-- Program 4: a STAT read answers `ACKIN` and clears it, and keeps `INTR`. -/
theorem test_rdStat16_clears_ackin :
    got (fun t => (t.outputs, t.stat)) (exec .rdStat16 { State.reset with stat := 0x287#32 }) =
      some ([.read .w16 0x287#32], 0x207#32) := by decide

/-- Program 3: a STAT read forces the transfer tick. -/
theorem test_rdStat32_forces_tick :
    got (fun t => (t.outputs, t.activeDevice)) (exec .rdStat32 inFlightState) =
      some ([.read .w32 7#32], .controller) := by decide

/-- X-9: the acknowledge tick is not forced. -/
theorem test_rdStat32_no_ack :
    got (fun t => (t.outputs, t.busState, t.ev)) (exec .rdStat32 { ackDue 0x1007#16 (withTw .ready) with now := 15 }) =
      some ([.read .w32 7#32], .waitingForAck, ⟨true, 30⟩) := by decide

/-- R-6, at each width. -/
theorem test_wrStat_ignored (v : Word) :
    exec (.wrStat8 v) State.reset = .next State.reset ∧ exec (.wrStat16 v) State.reset = .next State.reset ∧
      exec (.wrStat32 v) State.reset = .next State.reset := ⟨rfl, rfl, rfl⟩

/-- R-7. -/
theorem test_mode_reads :
    got (·.outputs) (exec .rdMode16 { State.reset with mode := 0x1234#16 }) = some [.read .w16 0x1234#32] ∧
    got (·.outputs) (exec .rdMode8 { State.reset with mode := 0x1234#16 }) = some [.read .w8 0x34#32] ∧
    got (·.outputs) (exec .rdModectrl { State.reset with mode := 0x1234#16 }) = some [.read .w32 0x1234#32] := by decide

/-- R-7, R-8. -/
theorem test_mode_writes :
    got (·.mode) (exec (.wrMode16 0x1234#32) State.reset) = some 0x1234#16 ∧
    got (·.mode) (exec (.wrMode8 0xAB#32) { State.reset with mode := 0x1234#16 }) = some 0x00AB#16 := by decide

/-- R-9. -/
theorem test_wrModectrl :
    got (fun t => (t.mode, t.ctrl, t.busState)) (exec (.wrModectrl 0x1003000D#32) State.reset) =
      some (0x000D#16, 0x1003#16, .idle) := by decide

/-- CTRL stands above MODE in the combined read (R119). -/
theorem test_rdModectrl_order :
    got (·.outputs) (exec .rdModectrl { State.reset with mode := 0x000D#16, ctrl := 0x1003#16 }) =
      some [.read .w32 0x1003000D#32] := by decide

/-- R-9, R117: the stored `ACK` bit is read back. -/
theorem test_ctrl_reads :
    got (·.outputs) (exec .rdCtrl16 { State.reset with ctrl := 0x1013#16 }) = some [.read .w16 0x1013#32] ∧
    got (·.outputs) (exec .rdCtrl8 { State.reset with ctrl := 0x1013#16 }) = some [.read .w8 0x13#32] := by decide

/-- R-11. -/
theorem test_wrCtrl8_reset :
    got (fun t => (t.ctrl, t.stat)) (exec (.wrCtrl8 0xFF#32) State.reset) = some (0x0000#16, 5#32) := by decide

/-- An 8-bit write clears CTRL's high byte (R78). -/
theorem test_wrCtrl8_clears_high :
    got (·.ctrl) (exec (.wrCtrl8 0x02#32) { State.reset with ctrl := 0x3003#16 }) = some 0x0002#16 := by decide

/-- R-12. -/
theorem test_wrCtrl16_ack :
    got (fun t => (t.ctrl, t.stat)) (exec (.wrCtrl16 0x0010#32) { State.reset with stat := 0x285#32 }) =
      some (0x0010#16, 0x085#32) := by decide

/-- R-13: the write that asserts the lines begins the queued byte. -/
theorem test_wrCtrl16_begins :
    got (fun t => (t.inFlight, t.transmitFull, t.busState, t.ctrl, t.stat)) (exec (.wrCtrl16 0x1003#32)
      { withTw .idle with transmitBuffer := 0x01#8, transmitFull := true, stat := 0#32 }) =
      some (0x01#8, false, .transmitting, 0x1007#16, 1#32) := by decide

/-- R-13: the begun transfer's tick lies `TRANSFER_TICKS(MODE, BAUD)` ahead. -/
theorem test_begin_deadline :
    got (·.ev) (exec (.wrCtrl16 0x1003#32) { State.reset with transmitFull := true, baud := 0x88#16, now := 7 }) =
      some ⟨true, 7 + Config.transferTicks 0#16 0x88#16⟩ := by
  have h : max 1 (Config.transferTicks 0#16 0x88#16) = Config.transferTicks 0#16 0x88#16 := by
    simp [Config.transferTicks]
  rw [← h]; rfl

/-- R-10. -/
theorem test_wrBaud16 : got (·.baud) (exec (.wrBaud16 0x0088#32) State.reset) = some 0x0088#16 := by decide

/-- R122, R78. -/
theorem test_wrBaud8 :
    got (·.baud) (exec (.wrBaud8 0x1288#32) { State.reset with baud := 0x3400#16 }) = some 0x0088#16 := by decide

/-- R-10. -/
theorem test_baud_reads :
    got (·.outputs) (exec .rdBaud16 { State.reset with baud := 0x1288#16 }) = some [.read .w16 0x1288#32] ∧
    got (·.outputs) (exec .rdBaud8 { State.reset with baud := 0x1288#16 }) = some [.read .w8 0x88#32] := by decide

/-- R-4. -/
theorem test_rdUndef :
    got (·.outputs) (exec (.rdUndef .w32 0xC#4) State.reset) = some [.read .w32 0xFFFFFFFF#32] ∧
    got (·.outputs) (exec (.rdUndef .w8 0xC#4) State.reset) = some [.read .w8 0xFF#32] ∧
    got (·.outputs) (exec (.rdUndef .w16 0x9#4) State.reset) = some [.read .w16 0xFFFF#32] := by decide

/-- R-18: no forced tick. -/
theorem test_rdUndef_forces_nothing :
    got (·.busState) (exec (.rdUndef .w32 0xC#4) inFlightState) = some .transmitting := by decide

/-- R-5. -/
theorem test_wrUndef : exec (.wrUndef .w32 0xC#4 0x12345678#32) State.reset = .next State.reset := rfl

/-- R-13, L1.6: the byte is buffered where the lines are not asserted. -/
theorem test_wrData8_buffers :
    got (fun t => (t.transmitBuffer, t.transmitFull, t.busState, t.stat)) (exec (.wrData8 0x01#32) State.reset) =
      some (0x01#8, true, .idle, 0#32) := by decide

/-- R-17: the queued byte is overwritten. -/
theorem test_wrData8_overwrites :
    got (fun t => (t.transmitBuffer, t.transmitFull, t.busState)) (exec (.wrData8 0x00#32)
      { inFlightState with transmitBuffer := 0x42#8, transmitFull := true }) = some (0x00#8, true, .transmitting) := by decide

/-- R-14. -/
theorem test_wrData16 :
    got (fun t => (t.transmitBuffer, t.transmitFull)) (exec (.wrData16 0xABCD#32) State.reset) = some (0xCD#8, true) := by
  decide

/-- R112 at 32 bits: the low byte, begun at once where the lines are asserted. -/
theorem test_wrData32_begins :
    got (fun t => (t.inFlight, t.transmitFull, t.busState, t.ctrl)) (exec (.wrData32 0x12345642#32)
      { State.reset with ctrl := 0x1003#16 }) = some (0x42#8, false, .transmitting, 0x1007#16) := by decide

/-! ## The event -/

/-- X-1. -/
theorem test_evtFire_no_device :
    got (fun t => (t.receiveBuffer, t.busState, t.ev.active, t.activeDevice, t.stat))
      (exec .evtFire (tickDue 0x1007#16 0x01#8 State.reset)) = some (0xFF#8, .idle, false, .none, 0x007#32) ∧
    got (·.outputs) (exec .evtFire (tickDue 0x1007#16 0x01#8 State.reset)) = some [] := by decide

/-- X-19. -/
theorem test_evtFire_idle :
    exec .evtFire { State.reset with ev := ⟨true, 0⟩ } = .next { State.reset with ev := ⟨false, 0⟩ } := rfl

/-- X-2. -/
theorem test_evtXfer_ack :
    got (fun t => (t.receiveBuffer, t.activeDevice, t.busState, t.stat, t.ctrlSlot[0]))
      (exec .evtXfer (tickDue 0x1007#16 0x01#8 (withTw .idle))) =
      some (0xFF#8, .controller, .waitingForAck, 0x007#32, some (.twist (twist .ready))) := by decide

/-- X-2: the acknowledge tick lies `ACK_TICKS_CTRL` ahead. -/
theorem test_evtXfer_deadline :
    got (·.ev) (exec .evtXfer (tickDue 0x1007#16 0x01#8 (withTw .idle))) = some ⟨true, 10 + Config.ackTicksCtrl⟩ := by
  have h : max 1 Config.ackTicksCtrl = Config.ackTicksCtrl := by simp [Config.ackTicksCtrl]
  conv_rhs => rw [← h]
  rfl

/-- X-6: a non-ack ends the transfer with the queued byte unsent. -/
theorem test_evtXfer_nack :
    got (fun t => (t.busState, t.transmitFull, t.transmitBuffer, t.stat)) (exec .evtXfer
      { tickDue 0x1007#16 0x42#8 (withTw .idle) with transmitFull := true, transmitBuffer := 0x01#8 }) =
      some (.idle, true, 0x01#8, 0x002#32) := by decide

/-- X-16: `SLOT` is read at the tick. -/
theorem test_evtXfer_other_port :
    got (fun t => (t.receiveBuffer, t.busState, t.ctrlSlot[0])) (exec .evtXfer (tickDue 0x3007#16 0x01#8 (withTw .idle))) =
      some (0xFF#8, .idle, some (.twist (twist .idle))) := by decide

/-- X-15: the locked controller is gone. -/
theorem test_evtXfer_locked_absent :
    got (fun t => (t.receiveBuffer, t.activeDevice, t.busState)) (exec .evtXfer
      { tickDue 0x1007#16 0x42#8 State.reset with activeDevice := .controller }) = some (0xFF#8, .none, .idle) := by decide

/-- X-3. -/
theorem test_evtAck_raises :
    got (fun t => (t.stat, t.busState, t.ev.active, t.activeDevice)) (exec .evtAck (ackDue 0x1007#16 State.reset)) =
      some (0x287#32, .idle, false, .controller) ∧
    got (·.outputs) (exec .evtAck (ackDue 0x1007#16 State.reset)) = some [.irq Config.irqLine] := ⟨by decide, rfl⟩

/-- X-4: no raise without `ACKINTEN`. -/
theorem test_evtAck_polled :
    got (fun t => (t.stat, t.outputs)) (exec .evtAck (ackDue 0x0007#16 State.reset)) = some (0x087#32, []) := by decide

/-- X-5: the chained begin. -/
theorem test_evtFire_chain :
    got (fun t => (t.inFlight, t.transmitFull, t.busState, t.stat)) (exec .evtFire (ackQueued 0x42#8 State.reset)) =
      some (0x42#8, false, .transmitting, 0x283#32) := by decide

/-- X-18: a second raise while `INTR` is set. -/
theorem test_evtAck_second_raise :
    got (·.outputs) (exec .evtAck
      { ackDue 0x1007#16 State.reset with stat := 0x207#32, outputs := [.irq Config.irqLine] }) =
      some [.irq Config.irqLine, .irq Config.irqLine] := rfl

/-- R95: each event word in its own bus state only (log 16). -/
theorem test_evt_refused :
    exec .evtXfer (ackDue 0x1007#16 State.reset) = .refused .eventNotAdmitted ∧
    exec .evtAck (tickDue 0x1007#16 0#8 State.reset) = .refused .eventNotAdmitted ∧
    exec .evtFire State.reset = .refused .eventNotEnabled ∧ exec .evtXfer inFlightState = .refused .eventNotEnabled :=
  ⟨rfl, rfl, rfl, rfl⟩

/-! ## The devices -/

/-- D-1, D-6: each row's reply and next transfer state. -/
theorem test_twist_rows :
    exec (.twIdleSel 0) (withTw .idle) = .next (withTwist 0 (twist .ready) 0xFF#8 true (withTw .idle)) ∧
    exec (.twReadyClass 0) (withTw .ready) = .next (withTwist 0 (twist .idMsb) 0x23#8 true (withTw .ready)) ∧
    exec (.twIdmsb 0 1#8) (withTw .idMsb) = .next (withTwist 0 (twist .buttonsLsb) 0x5A#8 true (withTw .idMsb)) ∧
    exec (.twBtnlsb 0 0#8) (withTw .buttonsLsb) =
      .next (withTwist 0 (twist .buttonsMsb) 0xF7#8 true (withTw .buttonsLsb)) ∧
    exec (.twBtnmsb 0 0#8) (withTw .buttonsMsb) =
      .next (withTwist 0 (twist .steering) 0xDF#8 true (withTw .buttonsMsb)) ∧
    exec (.twSteer 0 0#8) (withTw .steering) = .next (withTwist 0 (twist .axisI) 0xBF#8 true (withTw .steering)) ∧
    exec (.twAxi 0 0#8) (withTw .axisI) = .next (withTwist 0 (twist .axisII) 0x11#8 true (withTw .axisI)) ∧
    exec (.twAxii 0 0#8) (withTw .axisII) = .next (withTwist 0 (twist .axisL) 0x22#8 true (withTw .axisII)) ∧
    exec (.twAxl 0 0#8) (withTw .axisL) = .next (withTwist 0 (twist .idle) 0x7F#8 false (withTw .axisL)) :=
  ⟨rfl, rfl, rfl, rfl, rfl, rfl, rfl, rfl, rfl⟩

/-- D-2: a mismatch answers without acknowledge and is in `Idle` at once; a row elsewhere is refused (log 7). -/
theorem test_twist_misses :
    exec (.twIdleMiss 0 0x42#8) (withTw .idle) = .next (withTwist 0 (twist .idle) 0xFF#8 false (withTw .idle)) ∧
    exec (.twReadyMiss 0 0x43#8) (withTw .ready) = .next (withTwist 0 (twist .idle) 0xFF#8 false (withTw .ready)) ∧
    exec (.twReadyMiss 0 0x42#8) (withTw .ready) = .refused .exchangeNotAdmitted ∧
    exec (.twAxl 0 0#8) (withTw .axisI) = .refused .exchangeNotAdmitted :=
  ⟨rfl, rfl, rfl, rfl⟩

/-- D-7, D-8, D-13: each row's reply and next transfer state. -/
theorem test_gun_rows :
    exec (.gunIdleSel 0) (withGu .idle) = .next (withGun 0 (gun .ready) 0xFF#8 true (withGu .idle)) ∧
    exec (.gunReadyClass 0) (withGu .ready) =
      .next (withGun 0 { gun .idMsb with pos := ⟨0x0001#16, 0x000A#16⟩ } 0x63#8 true (withGu .ready)) ∧
    exec (.gunIdmsb 0 1#8) (withGu .idMsb) = .next (withGun 0 (gun .buttonsLsb) 0x5A#8 true (withGu .idMsb)) ∧
    exec (.gunBtnlsb 0 0#8) (withGu .buttonsLsb) =
      .next (withGun 0 (gun .buttonsMsb) 0xFF#8 true (withGu .buttonsLsb)) ∧
    exec (.gunBtnmsb 0 0#8) (withGu .buttonsMsb) = .next (withGun 0 (gun .xLsb) 0x9F#8 true (withGu .buttonsMsb)) ∧
    exec (.gunXlsb 0 0#8) (withGu .xLsb) = .next (withGun 0 (gun .xMsb) 0x23#8 true (withGu .xLsb)) ∧
    exec (.gunXmsb 0 0#8) (withGu .xMsb) = .next (withGun 0 (gun .yLsb) 0x01#8 true (withGu .xMsb)) ∧
    exec (.gunYlsb 0 0#8) (withGu .yLsb) = .next (withGun 0 (gun .yMsb) 0x67#8 true (withGu .yLsb)) ∧
    exec (.gunYmsb 0 0#8) (withGu .yMsb) = .next (withGun 0 (gun .idle) 0x45#8 false (withGu .yMsb)) :=
  ⟨rfl, rfl, rfl, rfl, rfl, rfl, rfl, rfl, rfl⟩

/-- R192 for the light gun; a row elsewhere is refused (log 7). -/
theorem test_gun_misses :
    exec (.gunIdleMiss 0 0x42#8) (withGu .idle) = .next (withGun 0 (gun .idle) 0xFF#8 false (withGu .idle)) ∧
    exec (.gunReadyMiss 0 0x43#8) (withGu .ready) = .next (withGun 0 (gun .idle) 0xFF#8 false (withGu .ready)) ∧
    exec (.gunIdleMiss 0 0x01#8) (withGu .idle) = .refused .exchangeNotAdmitted ∧
    exec (.gunIdleSel 0) (withTw .idle) = .refused .exchangeNotAdmitted :=
  ⟨rfl, rfl, rfl, rfl⟩

/-- The abstract models' rows hand back the model's reply (R186, R187). -/
theorem test_model_rows :
    got (·.returned) (exec (.padTransfer 2 1#8) (putController 2 (some (.pad ⟨0, 5⟩)) State.reset)) =
      some (some (.reply (Config.padTransfer ⟨0, 5⟩ 1#8).2)) ∧
    got (·.cardSlot[3]) (exec (.cardTransfer 3 0x81#8) (putCard 3 (some ⟨0, [7#8]⟩) State.reset)) =
      some (some (Config.cardTransfer ⟨0, [7#8]⟩ 0x81#8).1) ∧
    exec (.tapTransfer 1 1#8) State.reset = .refused .exchangeNotAdmitted := ⟨rfl, rfl, rfl⟩

/-! ## Host operations and resets -/

/-- H-1 in part: an advance past the acknowledge tick's deadline fires it and goes on. -/
theorem test_advance_fires :
    got (fun t => (t.now, t.busState, t.ev.active, t.stat)) (exec (.advance 30)
      { ackDue 0x0007#16 State.reset with now := 10 }) = some (40, .idle, false, 0x087#32) := by decide

/-- H-2, H-3. -/
theorem test_advance_idle :
    exec (.advance 0) inFlightState = .next inFlightState ∧ got (·.now) (exec (.advance 1000) State.reset) = some 1000 ∧
    got (fun t => (t.now, t.busState)) (exec (.wait 9) inFlightState) = some (9, .transmitting) := ⟨rfl, rfl, rfl⟩

/-- R230, R271. -/
theorem test_attachCtrl_initial :
    got (·.ctrlSlot[7]) (exec (.attachCtrl 7 (.twist none)) State.reset) =
      some (some (.twist ⟨.idle, ⟨0#16, 128#8, 0#8, 0#8, 0#8⟩⟩)) := by decide

/-- R212, R242, log 27: of a mask handed in, the bits of the button table stay. -/
theorem test_attachCtrl_unassigned :
    got (·.ctrlSlot[0]) (exec (.attachCtrl 0 (.twist (some ⟨0xFFFF#16, 1#8, 2#8, 3#8, 4#8⟩))) State.reset) =
      some (some (.twist ⟨.idle, ⟨0x38F8#16, 1#8, 2#8, 3#8, 4#8⟩⟩)) ∧
    gunPressed {} 0xFFFF#16 = 0x6008#16 := by decide

/-- R272, R274. -/
theorem test_detach :
    got (·.ctrlSlot[0]) (exec (.detachCtrl 0) (withTw .ready)) = some none ∧
    got (·.cardSlot[7]) (exec (.detachCard 7) (putCard 7 (some ⟨1, []⟩) State.reset)) = some none := by decide

/-- H-7. -/
theorem test_takeCard :
    got (fun t => (t.cardSlot[0], t.returned)) (exec (.takeCard 0) (putCard 0 (some ⟨4, [1#8]⟩) State.reset)) =
      some (none, some (.card (some ⟨4, [1#8]⟩))) := by decide

/-- H-7. -/
theorem test_attachCard_idle :
    got (·.cardSlot[1]) (exec (.attachCard 1 ⟨4, [1#8]⟩) State.reset) = some (some ⟨0, [1#8]⟩) := by decide

/-- R276. -/
theorem test_setTap :
    got (·.tap[1]) (exec (.setTap 1 (some ⟨5, 6, 7⟩)) State.reset) = some (some ⟨0, 6, 7⟩) ∧
    got (·.tap[1]) (exec (.setTap 1 none) (putTap 1 (some ⟨5, 6, 7⟩) State.reset)) = some none := by decide

/-- D-6: Start, and an index outside the table. -/
theorem test_setButton_twist :
    got (·.ctrlSlot[0]) (exec (.setButton 0 4 false) (withTw .idle)) =
      some (some (.twist { twist .idle with inputs := { (twist .idle).inputs with pressed := 0x2000#16 } })) ∧
    got (·.ctrlSlot[0]) (exec (.setButton 0 8 true) (withTw .idle)) = some (some (.twist (twist .idle))) := by decide

/-- D-10, D-11: shoot-offscreen toggles the Trigger once. -/
theorem test_setButton_gun :
    got (·.ctrlSlot[0]) (exec (.setButton 0 3 true)
      (putController 0 (some (.gun ⟨.idle, ⟨0#16, false, none⟩, ⟨0#16, 0#16⟩⟩)) State.reset)) =
      some (some (.gun ⟨.idle, ⟨0x2000#16, true, none⟩, ⟨0#16, 0#16⟩⟩)) ∧
    got (·.ctrlSlot[0]) (exec (.setButton 0 3 false) (withGu .idle)) = some (some (.gun (gun .idle))) := by decide

/-- H-9 for the L axis and an index outside the table. -/
theorem test_setAxis :
    got (·.ctrlSlot[0]) (exec (.setAxis 0 3 (.rat (1 / 2))) (withTw .steering)) =
      some (some (.twist { twist .steering with inputs := { (twist .steering).inputs with axL := 127#8 } })) ∧
    got (·.ctrlSlot[0]) (exec (.setAxis 0 9 (.rat 1)) (withTw .steering)) = some (some (.twist (twist .steering))) := by
  decide +kernel

/-- R279. -/
theorem test_setPointer :
    got (·.ctrlSlot[0]) (exec (.setPointer 0 (some ⟨.rat 1, .named 2⟩)) (withGu .xLsb)) =
      some (some (.gun { gun .xLsb with inputs := ⟨0x6000#16, false, some ⟨.rat 1, .named 2⟩⟩ })) ∧
    exec (.setPointer 0 (some ⟨.rat 1, .named 2⟩)) (withTw .idle) = .next (withTw .idle) := ⟨rfl, rfl⟩

/-- H-4: a snapshot records the remaining ticks. -/
theorem test_snapshot_remaining :
    got (·.returned) (exec .snapshot { ackDue 0x1007#16 (withTw .ready) with now := 10 }) =
      some (some (.snapshot (.intact Config.snapshotVersion
        { capture (ackDue 0x1007#16 (withTw .ready)) with evRemaining := 20 }))) := rfl

/-- R286: a version that has no record of slot 0 leaves its device as it is; the same recorded block in a version that has one
resets that device, which is of another variant (R283). -/
theorem test_restore_without_slot_record :
    (restoreDevices (· != .ctrlSlot 0) (capture (withTw .axisI)) (withGu .xLsb)).ctrlSlot[(0 : Slot)] =
        some (.gun (gun .xLsb)) ∧
      (restoreDevices (· != .ctrlSlot 2) (capture (withTw .axisI)) (withGu .xLsb)).ctrlSlot[(0 : Slot)] =
        some (.gun (gun .idle)) := ⟨rfl, rfl⟩

/-- R44, R286: a version that has `ev.active` without the ticks left to run keeps the live deadline. -/
theorem test_restore_event_fields :
    restoredEvent (· != .evRemaining) { capture State.reset with evActive := true, evRemaining := 7 }
        { State.reset with now := 5, ev := ⟨false, 9⟩ } = ⟨true, 9⟩ ∧
      restoredEvent (· != .evActive) { capture State.reset with evActive := true, evRemaining := 7 }
        { State.reset with now := 5, ev := ⟨false, 9⟩ } = ⟨false, 12⟩ := ⟨rfl, rfl⟩

/-- R35, R286: a version that has no `INTR` keeps the live bit 9 and takes the recorded bit 7. -/
theorem test_restore_stat_bits :
    pickBits (fun k : Fin 32 => k != 9) 0x00000080#32 0x00000200#32 = 0x00000280#32 := by decide +kernel

/-- H-5: a device of another variant is reset and keeps its inputs and position. -/
theorem test_restore_variant :
    restoreController {} (fun _ => true) 0 (some (.twist (twist .axisI))) (.gun (gun .xLsb)) = .gun (gun .idle) := rfl

/-- H-6. -/
theorem test_restore_broken :
    got (fun t => (t.restoreFailed, t.returned)) (exec (.restore .broken) State.reset) = some (true, some (.restored false)) :=
  rfl

/-- Z-1. -/
theorem test_sysreset :
    got (fun t => (t.ctrl, t.stat, t.busState, t.ev.active)) (exec .sysreset inFlightState) =
      some (0#16, 5#32, .idle, false) := by decide

/-- Z-2, X-17: inputs are kept. -/
theorem test_sreset :
    got (fun t => (t.ctrl, t.stat, t.receiveBuffer, t.ctrlSlot[0])) (exec .sreset (ackDue 0x1007#16 (withTw .steering))) =
      some (0#16, 5#32, 0#8, some (.twist (twist .idle))) := by decide +kernel

/-- Z-3: the later steps of the write see the reset CTRL. -/
theorem test_wrCtrl16_reset_first :
    got (fun t => (t.ctrl, t.stat, t.transmitFull, t.busState)) (exec (.wrCtrl16 0x1043#32)
      { State.reset with transmitBuffer := 1#8, transmitFull := true, stat := 0#32 }) =
      some (0#16, 5#32, false, .idle) := by decide

/-! ## Pseudo-instructions -/

/-- R100. -/
theorem test_select :
    got (·.ctrl) (exec (.select 1) State.reset) = some 0x3003#16 ∧
    got (·.ctrl) (exec (.selectq 1) State.reset) = some 0x2003#16 := by decide

/-- X-18: one `ACKCLR` clears `INTR`. -/
theorem test_ackclr :
    got (fun t => (t.ctrl, t.stat)) (exec (.ackclr 0x1003#16) { State.reset with ctrl := 0x1007#16, stat := 0x205#32 }) =
      some (0x1013#16, 0x005#32) := by decide

/-- X-11: the acknowledge is dropped. -/
theorem test_deselect :
    got (fun t => (t.activeDevice, t.busState, t.ev.active, t.receiveBuffer, t.ctrlSlot[0]))
      (exec .deselect (ackDue 0x1007#16 (withTw .ready))) =
      some (.none, .idle, false, 0xFF#8, some (.twist (twist .idle))) := by decide +kernel

/-- X-10: the abort keeps the device's state with `SELECT` held. -/
theorem test_abort_transmit_off :
    got (fun t => (t.busState, t.ev.active, t.ctrlSlot[0], t.receiveBuffer)) (exec (.wrCtrl16 0x1002#32) inFlightState) =
      some (.idle, false, some (.twist (twist .idle)), 0#8) := by decide

/-- X-2's start: `SEND 0x01`. -/
theorem test_send :
    got (fun t => (t.inFlight, t.busState, t.ctrl)) (exec (.send 0x01#8) { withTw .idle with ctrl := 0x1003#16 }) =
      some (0x01#8, .transmitting, 0x1007#16) := by decide

/-! ## The step and the table words presented to it (log 5, 6) -/

/-- A due event fires before the operation presented. -/
theorem test_step_event_first :
    got (fun t => (t.busState, t.pending.length)) (step
      { ackDue 0x0007#16 State.reset with pending := [⟨0x2004#16, .none⟩] }) = some (.idle, 1) := by decide

/-- With no event due the next operation runs and leaves the list. -/
theorem test_step_operation :
    got (fun t => (t.outputs, t.pending.length)) (step { inFlightState with pending := [⟨0x100A#16, .none⟩] }) =
      some ([.read .w16 0x1007#32], 0) := by decide

/-- An illegal word is refused by name (R94). -/
theorem test_step_illegal :
    step { State.reset with pending := [⟨0x3000#16, .none⟩] } = .refused (.illegalWord .reservedWidth) := rfl

/-- A presented register read, and a presented write with the operand bits above the word. -/
theorem test_fetch_word :
    got (·.outputs) (step (State.reset.withFetchWord 16 0x2004)) = some [.read .w32 5#32] ∧
    got (·.mode) (step (State.reset.withFetchWord 48 0x12345008)) = some 0x1234#16 := by decide

/-- Presented event words fire in their bus state. -/
theorem test_fetch_event :
    got (·.busState) (step (State.reset.withFetchWord 16 0x8001)) = some .idle ∧
    got (·.stat) (step (State.reset.withFetchWord 16 0x8002)) = some 0x085#32 := by decide

/-- A presented device byte reaches a twist controller in slot 0. -/
theorem test_fetch_byte :
    got (fun t => (t.receiveBuffer, t.activeDevice)) (step (State.reset.withFetchWord 8 0x42)) =
      some (0x23#8, .controller) ∧
    got (fun t => (t.receiveBuffer, t.activeDevice)) (step (State.reset.withFetchWord 8 0x00)) =
      some (0xFF#8, .none) := by decide

/-! ## The input mappings (D-4, D-5) -/

theorem test_steer_linear :
    steerMapWith (0 : ℚ) .linear 0 = 128#8 ∧ steerMapWith (0 : ℚ) .linear (1 / 2) = 191#8 ∧
    steerMapWith (0 : ℚ) .linear (-1 / 2) = 64#8 ∧ steerMapWith (0 : ℚ) .linear 2 = 255#8 ∧
    steerMapWith (0 : ℚ) .linear (-254 / 255) = 1#8 := by decide +kernel
theorem test_steer_deadzone :
    steerMapWith (1 / 5 : ℚ) .linear (1 / 10) = 128#8 ∧ steerMapWith (1 / 5 : ℚ) .linear (3 / 5) = 191#8 ∧
    steerMapWith (1 / 5 : ℚ) .linear (-3 / 5) = 64#8 ∧ steerMapWith (1 / 5 : ℚ) .linear (1 / 5) = 128#8 := by decide +kernel
theorem test_steer_curves :
    steerMapWith (0 : ℚ) .quadratic (1 / 2) = 159#8 ∧ steerMapWith (0 : ℚ) .quadratic (-1 / 2) = 96#8 ∧
    steerMapWith (0 : ℚ) .cubic (1 / 2) = 143#8 ∧ steerMapWith (0 : ℚ) .cubic (-1) = 0#8 := by decide +kernel
theorem test_analog :
    analogMap .truncate (.rat (1 / 2)) = 127#8 ∧ analogMap .nearest (.rat (1 / 2)) = 128#8 ∧
    analogMap .truncate (.rat (999 / 1000)) = 254#8 ∧ analogMap .nearest (.rat (999 / 1000)) = 255#8 ∧
    analogMap .truncate (.rat (-3 / 10)) = 0#8 ∧ analogMap .nearest (.rat (3 / 2)) = 255#8 := by decide +kernel
/-- The mapping over the reals, at a value the rationals compute (D-5). -/
theorem test_steer_real : steerMapWith ((1 / 5 : ℚ) : ℝ) .linear ((3 / 5 : ℚ) : ℝ) = 191#8 := by
  rw [steerMapWith_cast]; decide +kernel

/-! ## Witnesses: concrete states and operands that meet the hypotheses of each obligation -/

theorem witness_DecodeEncodeOperation :
    ∀ i ∈ [Instr.rdUndef .w32 0xE#4, .wrUndef .w8 0xB#4 0xFFFFFFFF#32, .twIdleMiss 7 0x00#8, .gunReadyMiss 0 0xFF#8,
        .restore .broken, .attachCtrl 7 (.gun none)],
      i.wellFormed = true ∧ i.isPseudo = false := by decide

theorem witness_EncodeDecodeOperationWord : decodeOp ⟨0xC707#16, .button 3 true⟩ = .ok (.setButton 7 3 true) := rfl

/-- A word for each clause, at the ends of its range. -/
theorem witness_IllegalWordsRefused :
    (∀ w ∈ [0x3000#16, 0x7FFF#16, 0x0010#16, 0x6FF0#16],
      w.toNat < 0x8000 ∧ (w.extractLsb' 12 2 = 3#2 ∨ w.extractLsb' 4 8 ≠ 0#8)) ∧
    (∀ w ∈ [0x8003#16, 0xBFFF#16], 0x8003 ≤ w.toNat ∧ w.toNat < 0xC000) ∧
    (∀ w ∈ [0xCD00#16, 0xFFFF#16], 0xCD00 ≤ w.toNat) ∧
    (∀ w ∈ [0xC108#16, 0xC5FF#16, 0xC708#16, 0xC9FF#16], 0xC100 ≤ w.toNat ∧ w.toNat < 0xCA00 ∧
      (w.extractLsb' 8 8).toNat ≠ 0xC6 ∧ 8 ≤ (w.extractLsb' 0 8).toNat) ∧
    (∀ w ∈ [0xC602#16, 0xC6FF#16], (w.extractLsb' 8 8).toNat = 0xC6 ∧ 2 ≤ (w.extractLsb' 0 8).toNat) ∧
    (∀ w ∈ [0xC001#16, 0xC0FF#16, 0xCA01#16, 0xCB01#16, 0xCCFF#16],
      (w.extractLsb' 8 8).toNat ∈ [0xC0, 0xCA, 0xCB, 0xCC] ∧ (w.extractLsb' 0 8).toNat ≠ 0) ∧
    (∀ w ∈ [0x0000#16, 0x200F#16, 0x4000#16, 0x600F#16],
      w.toNat < 0x8000 ∧ w.extractLsb' 12 2 ≠ 3#2 ∧ w.extractLsb' 4 8 = 0#8) ∧
    schedulerFirst { State.reset with pending := [⟨0x3000#16, .none⟩] } = false ∧
    (0xCA00#16, Instr.snapshot) ∈ [(0x8000#16, Instr.evtFire), (0xCA00#16, .snapshot)] ∧
    (0xC200, Instr.detachCtrl 7) ∈ [(0xC200, Instr.detachCtrl 7), (0xC400, .detachCard 7)] := by
  simp [schedulerFirst, eventDue, State.reset]

theorem witness_RegisterDecodeTable :
    ∀ x ∈ [(0x0000, Width.w8, 0x1#4), (0x1000, .w16, 0xF#4), (0x2000, .w32, 0xA#4)],
      (x.1, x.2.1) ∈ [(0x0000, Width.w8), (0x1000, .w16), (0x2000, .w32)] ∧
        x.1 + x.2.2.toNat ∉ [0x0000, 0x1000, 0x2000, 0x0004, 0x1004, 0x2004, 0x0008, 0x1008, 0x2008, 0x000A, 0x100A,
          0x000E, 0x100E] := by decide

theorem witness_PseudoExpansion :
    (Instr.select 1, Instr.wrCtrl16 0x3003#32) ∈ [(Instr.select 0, Instr.wrCtrl16 0x1003#32),
      (.select 1, .wrCtrl16 0x3003#32)] ∧
    (∃ c : BitVec 16, (Instr.ackclr 0xFFFF#16, Instr.wrCtrl16 0xFFFF#32) =
      (.ackclr c, .wrCtrl16 ((c ||| 0x0010#16).setWidth 32))) ∧
    (∃ b : Byte, (Instr.send 0xFF#8, Instr.wrData8 0xFF#32) = (.send b, .wrData8 (b.setWidth 32))) ∧
    ∃ n : Nat, (Instr.wait 0, Instr.advance 0) = (.wait n, .advance n) :=
  ⟨by decide, ⟨0xFFFF#16, rfl⟩, ⟨0xFF#8, rfl⟩, ⟨0, rfl⟩⟩

/-- A due event at its deadline; an operation with no event due; nothing presented; an event one tick ahead. -/
theorem witness_StepRunsDecodedOperation :
    ((ackDue 0#16 State.reset).params.maxLateness = 0 ∧ (ackDue 0#16 State.reset).ev.active = true ∧
      (ackDue 0#16 State.reset).ev.deadline ≤ (ackDue 0#16 State.reset).now ∧
      (⟨0x2004#16, .none⟩ : Op).isEvent = false) ∧
    (schedulerFirst { inFlightState with pending := [⟨0x2004#16, .none⟩] } = false ∧
      decodeOp ⟨0x2004#16, .none⟩ = .ok .rdStat32) ∧
    (schedulerFirst State.reset = false ∧ State.reset.pending = []) ∧
    { inFlightState with now := 9 }.now < inFlightState.ev.deadline := by
  exact ⟨by decide, ⟨by decide, rfl⟩, by decide, by decide⟩

theorem witness_TableWordIsFetched :
    eventDue inFlightState = false ∧ decodeTableWord 16 0x2004 = some .rdStat32 ∧
      Instr.rdStat32 ∉ [Instr.evtFire, .evtXfer, .evtAck] := ⟨by decide, rfl, by decide⟩

/-- DATA and STAT reads: a bus that does not transmit, and the policy `ONLY_IF_DUE` one tick before the deadline. -/
theorem witness_DataReadAnswers_StatReadAnswers :
    NotForced State.reset ∧
      NotForced { inFlightState with now := 9, params := { invokeEarly := .onlyIfDue } } ∧
      (Instr.rdData8, Width.w8) ∈ [(Instr.rdData8, Width.w8)] ∧
      (Instr.rdStat8, Width.w8) ∈ [(Instr.rdStat8, Width.w8)] := by
  refine ⟨.inl (by decide), .inr (by decide), by decide, by decide⟩

theorem witness_EarlyTickOnRead :
    inFlightState.busState = .transmitting ∧ inFlightState.params.invokeEarly = .always ∧
      { inFlightState with now := 10, params := { invokeEarly := .onlyIfDue } }.ev.deadline ≤ 10 := by decide

theorem witness_UndefinedAccessesChangeNothing :
    ∀ x ∈ [(Width.w32, 0xA#4), (.w32, 0xE#4), (.w16, 0xF#4), (.w8, 0x1#4), (.w8, 0xB#4)],
      x.2.toNat ∉ [0x0, 0x4, 0x8] ∧ (x.1 ≠ .w32 → x.2.toNat ∉ [0xA, 0xE]) := by decide

/-- A write that starts, with and without `START_REQUIRES_RX_EMPTY`; one that the full receive latch holds back. -/
theorem witness_DataWriteLatchesOrStarts :
    (State.reset.busState = .idle ∧ StartReady { State.reset with transmitFull := true, ctrl := 0x0003#16 }) ∧
    StartReady { State.reset with
      transmitFull := true, ctrl := 0x0003#16, params := { startRequiresRxEmpty := true } } ∧
    ¬StartReady { State.reset with
      transmitFull := true, ctrl := 0x0003#16, receiveFull := true, params := { startRequiresRxEmpty := true } } ∧
    ¬StartReady { State.reset with transmitFull := true, ctrl := 0x0002#16 } := by
  simp [StartReady, State.reset]

theorem witness_ResetsGiveResetValues :
    (CtrlWrite (.wrCtrl8 0xFFFFFF40#32) 0xFFFFFF40#32 0x0040#16 ∧ (0x0040#16).getLsbD 6 = true) ∧
    CtrlWrite (.wrCtrl16 0x1043#32) 0x1043#32 0x1043#16 ∧ (0x1043#16).getLsbD 6 = true := by
  exact ⟨⟨.inl ⟨rfl, by decide⟩, by decide⟩, .inr ⟨rfl, by decide⟩, by decide⟩

theorem witness_CtrlWriteDeselects :
    CtrlWrite (.wrCtrl8 0x11#32) 0x11#32 0x0011#16 ∧ (0x0011#16).getLsbD 6 = false ∧ (0x0011#16).getLsbD 1 = false := by
  exact ⟨.inl ⟨rfl, by decide⟩, by decide⟩

theorem witness_CtrlWriteTransmitOff :
    CtrlWrite (.wrCtrl16 0x1002#32) 0x1002#32 0x1002#16 ∧ (0x1002#16).getLsbD 6 = false ∧
      (0x1002#16).getLsbD 1 = true ∧ (0x1002#16).getLsbD 0 = false := by
  exact ⟨.inr ⟨rfl, by decide⟩, by decide⟩

/-- A write that starts a queued byte, and one that finds nothing queued. -/
theorem witness_CtrlWriteStarts :
    CtrlWrite (.wrCtrl16 0x1003#32) 0x1003#32 0x1003#16 ∧ (0x1003#16).getLsbD 6 = false ∧
      (0x1003#16).getLsbD 1 = true ∧ (0x1003#16).getLsbD 0 = true ∧
      CtrlStored 0x1003#16 { State.reset with transmitFull := true }
        { State.reset with transmitFull := true, ctrl := 0x1003#16 } ∧
      StartReady { State.reset with transmitFull := true, ctrl := 0x1003#16 } ∧
      ¬StartReady { State.reset with ctrl := 0x1003#16 } := by
  refine ⟨.inr ⟨rfl, by decide⟩, by decide, by decide, by decide, ⟨5#32, fun k => ?_, rfl⟩, ?_, ?_⟩
  · simp [State.reset]
  · simp [StartReady, State.reset]
  · simp [StartReady, State.reset]

/-- Due transfer and acknowledge ticks at their deadlines, an idle bus with an active event, and an event not due. -/
theorem witness_FiringDispatch :
    TickDue (tickDue 0x1007#16 0x01#8 State.reset) ∧ AckDue (ackDue 0x1007#16 State.reset) ∧
      ({ State.reset with ev := ⟨true, 0⟩ }.ev.active = true ∧ State.reset.busState = .idle) ∧
      inFlightState.busState ≠ .waitingForAck ∧ ¬(inFlightState.ev.active = true ∧ inFlightState.ev.deadline ≤ 9) := by
  simp [TickDue, AckDue, tickDue, ackDue, inFlightState, withTw, putController, State.reset, State.setCtrlSlot]

/-- A due acknowledge tick with a byte queued, and one without. -/
theorem witness_AckTickEffect :
    AckDue (ackQueued 0x42#8 State.reset) ∧ StartReady (ackQueued 0x42#8 State.reset) ∧
      AckDue (ackDue 0x1007#16 State.reset) ∧ ¬StartReady (ackDue 0x1007#16 State.reset) ∧
      Instr.evtAck ∈ [Instr.evtFire, .evtAck] := by
  simp [AckDue, StartReady, ackQueued, ackDue, State.reset]

/-- Nothing attached at port 1; each locked class absent, with a multitap on the port for the first two. -/
theorem witness_TickWithoutDevice :
    (TickDue (tickDue 0x3007#16 0x01#8 State.reset) ∧ Looks (tickDue 0x3007#16 0x01#8 State.reset) 1 1) ∧
    (∀ a ∈ [ActiveDevice.controller, .memoryCard, .multitap],
      TickDue { tickDue 0x1007#16 0x01#8 State.reset with activeDevice := a } ∧
        Looks { tickDue 0x1007#16 0x01#8 State.reset with activeDevice := a } 0 0) ∧
    Looks (tickDue 0x1007#16 0x01#8 (putTap 0 (some ⟨0, 0, 0⟩) State.reset)) 0 (Config.relayIndex 0) := by
  simp [TickDue, Looks, tickDue, putTap, State.reset, State.setTap]

/-- A multitap on port 0 that is not enabled (`TAP_MODEL` is open, log 12), with nothing at `RELAY_INDEX(0)`. -/
theorem witness_TickWithoutDevice_disabled_tap (q : Tap) (h : Config.tapEnabled q = false) :
    let s := tickDue 0x1007#16 0x01#8 (putTap 0 (some q) State.reset)
    TickDue s ∧ Looks s 0 (Config.relayIndex 0) ∧ s.activeDevice = .none ∧ tapTakesByte 0 s = false ∧
      s.ctrlSlot[Config.relayIndex 0] = none ∧ s.cardSlot[Config.relayIndex 0] = none := by
  refine ⟨by simp [TickDue, tickDue], by simp [Looks, tickDue, putTap, State.reset, State.setTap], rfl, h, ?_, ?_⟩ <;>
    simp [tickDue, putTap, State.reset, State.setTap]

/-- A free bus and a locked controller, with a twist controller and a light gun in the slot. -/
theorem witness_TickRunsControllerRow :
    TickDue (tickDue 0x1007#16 0x01#8 (withTw .idle)) ∧ Looks (tickDue 0x1007#16 0x01#8 (withTw .idle)) 0 0 ∧
      (tickDue 0x1007#16 0x01#8 (withTw .idle)).ctrlSlot[(0 : Slot)] = some (.twist (twist .idle)) ∧
      tapTakesByte 0 (tickDue 0x1007#16 0x01#8 (withTw .idle)) = false ∧
      (tickDue 0x1007#16 0x42#8 (withGu .ready)).ctrlSlot[(0 : Slot)] = some (.gun (gun .ready)) := by
  refine ⟨by simp [TickDue, tickDue], ?_, rfl, rfl, rfl⟩
  simp [Looks, tickDue, withTw, putController, State.setCtrlSlot, State.reset]

/-- A card alone on port 0, free and locked. -/
theorem witness_TickRunsCardRow :
    TickDue (tickDue 0x1007#16 0x81#8 (putCard 0 (some ⟨0, []⟩) State.reset)) ∧
      Looks (tickDue 0x1007#16 0x81#8 (putCard 0 (some ⟨0, []⟩) State.reset)) 0 0 ∧
      (tickDue 0x1007#16 0x81#8 (putCard 0 (some ⟨0, []⟩) State.reset)).cardSlot[(0 : Slot)] = some ⟨0, []⟩ ∧
      (tickDue 0x1007#16 0x81#8 (putCard 0 (some ⟨0, []⟩) State.reset)).ctrlSlot[(0 : Slot)] = none := by
  refine ⟨by simp [TickDue, tickDue], ?_, rfl, by decide⟩
  simp [Looks, tickDue, putCard, State.setCardSlot, State.reset]

/-- X-13: a twist controller that does not acknowledge 0x81, and a card, on port 0. -/
theorem witness_TickFallsToCard :
    TickDue (tickDue 0x1007#16 0x81#8 (putCard 0 (some ⟨0, []⟩) (withTw .idle))) ∧
      Looks (tickDue 0x1007#16 0x81#8 (putCard 0 (some ⟨0, []⟩) (withTw .idle))) 0 0 ∧
      (tickDue 0x1007#16 0x81#8 (putCard 0 (some ⟨0, []⟩) (withTw .idle))).cardSlot[(0 : Slot)] = some ⟨0, []⟩ ∧
      (tickDue 0x1007#16 0x81#8 (putCard 0 (some ⟨0, []⟩) (withTw .idle))).ctrlSlot[(0 : Slot)] =
        some (.twist (twist .idle)) ∧
      got (·.returned) (exec (.twIdleMiss 0 0x81#8) (putCard 0 (some ⟨0, []⟩) (withTw .idle))) =
        some (some (.reply ⟨0xFF#8, false⟩)) := by
  refine ⟨by simp [TickDue, tickDue], ?_, rfl, rfl, rfl⟩
  simp [Looks, tickDue, withTw, putController, putCard, State.setCardSlot, State.setCtrlSlot, State.reset]

/-- A locked multitap on port 1; `tapEnabled` of the other case is an open parameter. -/
theorem witness_TickRunsTapRow :
    TickDue { tickDue 0x3007#16 0x01#8 (putTap 1 (some ⟨0, 0, 0⟩) State.reset) with activeDevice := .multitap } ∧
      (1 : Port).val = ((0x3007#16).getLsbD 13).toNat ∧
      (tickDue 0x3007#16 0x01#8 (putTap 1 (some ⟨0, 0, 0⟩) State.reset)).tap[(1 : Port)] = some ⟨0, 0, 0⟩ := by
  refine ⟨by simp [TickDue, tickDue], by decide, rfl⟩

theorem witness_TransferTickNeverAcknowledges : TickDue (tickDue 0x1007#16 0x01#8 State.reset) := by
  simp [TickDue, tickDue]

/-- An inactive event, and an active one just past the target. -/
theorem witness_AdvanceWithoutEvent :
    (State.reset.ev.active = true → State.reset.now + 1000 < State.reset.ev.deadline) ∧
      (inFlightState.ev.active = true → inFlightState.now + 9 < inFlightState.ev.deadline) := by decide

/-- A deadline at the target, and one at the present time. -/
theorem witness_AdvanceStopsAtDeadline :
    (inFlightState.ev.active = true ∧ inFlightState.now ≤ inFlightState.ev.deadline ∧
      inFlightState.ev.deadline ≤ inFlightState.now + 10) ∧
    (tickDue 0#16 0#8 State.reset).now ≤ (tickDue 0#16 0#8 State.reset).ev.deadline ∧
      (tickDue 0#16 0#8 State.reset).ev.deadline ≤ (tickDue 0#16 0#8 State.reset).now + 0 := by decide

/-- A twist controller in each transfer state; a byte the mismatch rows take. -/
theorem witness_TwistRows_TwistPacket :
    (∀ ts ∈ [TwistState.idle, .ready, .idMsb, .buttonsLsb, .buttonsMsb, .steering, .axisI, .axisII, .axisL],
      (withTw ts).ctrlSlot[(0 : Slot)] = some (.twist (twist ts)) ∧ (twist ts).ts = ts) ∧
    0x42#8 ≠ 0x01#8 ∧ 0x01#8 ≠ 0x42#8 := by decide

/-- A light gun in each transfer state; a byte the mismatch rows take; a position. -/
theorem witness_GunRows_GunPacket :
    (∀ gs ∈ [GunState.idle, .ready, .idMsb, .buttonsLsb, .buttonsMsb, .xLsb, .xMsb, .yLsb, .yMsb],
      (withGu gs).ctrlSlot[(0 : Slot)] = some (.gun (gun gs)) ∧ (gun gs).gs = gs) ∧
    0x42#8 ≠ 0x01#8 ∧ 0x01#8 ≠ 0x42#8 ∧
    (⟨0x0001#16, 0x000A#16⟩ : BeamPos) = if (gun .idle).inputs.offscreen = true then ⟨0x0001#16, 0x000A#16⟩
      else ((gun .idle).inputs.ptr.bind Config.beam).getD ⟨0x0001#16, 0x000A#16⟩ :=
  ⟨by decide +kernel, by decide, by decide, rfl⟩

theorem witness_ModelRowsComplete :
    (putController 7 (some (.pad ⟨0, 5⟩)) State.reset).ctrlSlot[(7 : Slot)] = some (.pad ⟨0, 5⟩) ∧
      (putCard 7 (some ⟨0, [1#8]⟩) State.reset).cardSlot[(7 : Slot)] = some ⟨0, [1#8]⟩ ∧
      (putTap 1 (some ⟨0, 1, 2⟩) State.reset).tap[(1 : Port)] = some ⟨0, 1, 2⟩ ∧
      ∀ k : SubPort, Config.tapSlots 1 k ≠ Config.tapSlots 0 3 := by
  refine ⟨rfl, rfl, rfl, fun k h => ?_⟩
  have e := congrArg Fin.val (Config.tapSlotPerm.injective h)
  simp at e
  omega

/-- Empty places, and a twist controller in another transfer state. -/
theorem witness_DeviceRowsRefuseElsewhere :
    (∀ d, (withTw .ready).ctrlSlot[(0 : Slot)] = some (.twist d) → d.ts ≠ .idle) ∧
      (∀ d, (withTw .idle).ctrlSlot[(0 : Slot)] = some (.gun d) → d.gs ≠ .idle) ∧
      (∀ d, (withTw .idle).ctrlSlot[(0 : Slot)] ≠ some (.pad d)) ∧
      State.reset.cardSlot[(7 : Slot)] = none ∧ State.reset.tap[(1 : Port)] = none := by
  refine ⟨?_, ?_, ?_, by decide, by decide⟩
  · intro d h
    have e : some (Controller.twist (twist .ready)) = some (.twist d) := h
    cases e; decide
  · intro d h
    have e : some (Controller.twist (twist .idle)) = some (.gun d) := h
    cases e
  · intro d h
    have e : some (Controller.twist (twist .idle)) = some (.pad d) := h
    cases e

theorem witness_WrongCommandByteReturnsToIdle :
    ((twist .idle).ts = .idle ∧ 0x42#8 ≠ 0x01#8) ∧ ((twist .ready).ts = .ready ∧ 0x01#8 ≠ 0x42#8) ∧
      ((gun .idle).gs = .idle ∧ 0x00#8 ≠ 0x01#8) ∧ (gun .ready).gs = .ready ∧ 0x43#8 ≠ 0x42#8 := by decide

theorem witness_DeviceResetKeepsInputs : Instr.sreset ∈ [Instr.deselect, .sreset, .sysreset] := by decide

theorem witness_SetButtonOnTwistPadOrNothing_SetAxisByVariant :
    (withTw .idle).ctrlSlot[(0 : Slot)] = some (.twist (twist .idle)) ∧
      (putController 7 (some (.pad ⟨0, 5⟩)) State.reset).ctrlSlot[(7 : Slot)] = some (.pad ⟨0, 5⟩) ∧
      (withGu .idle).ctrlSlot[(0 : Slot)] = some (.gun (gun .idle)) ∧ State.reset.ctrlSlot[(3 : Slot)] = none :=
  ⟨rfl, rfl, rfl, by decide⟩

/-- Index 3 at its value and at the other, 0 and 2, and 4. -/
theorem witness_SetButtonOnGun_SetPointerReachesGunsOnly :
    (withGu .idle).ctrlSlot[(0 : Slot)] = some (.gun (gun .idle)) ∧ (gun .idle).inputs.offscreen = false ∧
      (gun .idle).inputs.offscreen ≠ true ∧ 0 < 3 ∧ 2 < 3 ∧ 3 < 4 ∧
      (∀ d : Gun, (withTw .idle).ctrlSlot[(0 : Slot)] ≠ some (.gun d)) := by
  refine ⟨rfl, by decide, by decide, by decide, by decide, by decide, fun d h => ?_⟩
  have e : some (Controller.twist (twist .idle)) = some (.gun d) := h
  cases e

/-- The ends of the deadzone's and of the input's range. -/
theorem witness_SteeringMapRange_SteeringMapMonotone :
    (0 : ℝ) ≤ 0 ∧ (0 : ℝ) < 1 ∧ (0 : ℝ) ≤ 99 / 100 ∧ (99 / 100 : ℝ) < 1 ∧ (-1 : ℝ) ≤ -1 ∧
      (-(1 / 5) : ℝ) ≤ 1 / 5 ∧ (1 / 5 : ℝ) ≤ 1 / 5 ∧ (1 / 10 : ℝ) ≤ 1 / 2 := by norm_num

/-- An operand at each end of the range and one inside it. -/
theorem witness_AnalogMapRange :
    (RealNum.rat 0).value ≤ 0 ∧ 1 ≤ (RealNum.rat 1).value ∧ 0 ≤ (RealNum.rat (1 / 2)).value ∧
      (RealNum.rat (1 / 2)).value ≤ 1 := by
  simp only [RealNum.value, RealNum.valueIn]; norm_num

/-- The twist controller of the tests has no unassigned button bit set. -/
theorem unassignedClear_withTw (ts : TwistState) : UnassignedClear (withTw ts) := by
  intro i c h
  have key : ∀ i : Slot, i ≠ 0 → (withTw ts).ctrlSlot[i] = none := by cases ts <;> decide +kernel
  by_cases hi : i = 0
  · subst hi
    have e : some (Controller.twist (twist ts)) = some c := h
    cases e
    intro k hk
    have key : ∀ k : Fin 16, (∀ j ∈ twistButtonDefault, j.val ≠ k.val) → (0x2008#16).getLsbD k.val = false := by decide
    by_cases hk16 : k < 16
    · exact key ⟨k, hk16⟩ hk
    · exact BitVec.getLsbD_of_ge _ _ (by omega)
  · rw [key i hi] at h
    cases h

/-- A snapshot in `WaitingForAck` and the later state of program 4. -/
theorem witness_SnapshotRestoreRoundTrip :
    StatusFresh (ackDue 0x1007#16 (withTw .ready)) ∧
      SameDevices (ackDue 0x1007#16 (withTw .ready)) { withTw .idle with now := 90 } ∧
      (∀ (i : Slot) (c : Controller), (ackDue 0x1007#16 (withTw .ready)).ctrlSlot[i] = some c →
        UnassignedClearOf { withTw .idle with now := 90 }.params c) ∧
      (ackDue 0x1007#16 (withTw .ready)).now ≤ (ackDue 0x1007#16 (withTw .ready)).ev.deadline := by
  refine ⟨by simp [StatusFresh, ackDue, withTw, putController, State.setCtrlSlot, State.reset],
    ⟨?_, fun _ => rfl, fun _ => rfl⟩, unassignedClear_withTw .ready, by decide⟩
  have h : ∀ k : Slot, (withTw .ready).ctrlSlot[k].map variantOf = (withTw .idle).ctrlSlot[k].map variantOf := by
    decide +kernel
  exact h

/-- A snapshot of the current version, which holds every field, with a twist controller, restored over a light gun, over a twist
controller, and over a card and a multitap that it has none or the same ones for; an event recorded. -/
theorem witness_RestoreExceptions :
    (∀ f ∈ [SnapField.evActive, .evRemaining, .ctrlSlot 0, .cardSlot 0, .tap 0, .cardContents 0],
      Config.versionHas Config.snapshotVersion f = true) ∧
      ((withGu .xLsb).ctrlSlot[(0 : Slot)] = some (.gun (gun .xLsb)) ∧
        (capture (withTw .axisI)).ctrlSlot[(0 : Slot)].map variantOf ≠ some (variantOf (.gun (gun .xLsb)))) ∧
      ((withTw .idle).ctrlSlot[(0 : Slot)] = some (.twist (twist .idle)) ∧
        (capture (withTw .axisI)).ctrlSlot[(0 : Slot)] = some (.twist (twist .axisI)) ∧
        (capture (withGu .xLsb)).ctrlSlot[(0 : Slot)] = some (.gun (gun .xLsb))) ∧
      ((putCard 0 (some ⟨1, []⟩) State.reset).cardSlot[(0 : Slot)] = some ⟨1, []⟩ ∧
        (capture State.reset).cardSlot[(0 : Slot)] = none ∧
        (capture (putCard 0 (some ⟨2, []⟩) State.reset)).cardSlot[(0 : Slot)] = some ⟨2, []⟩) ∧
      ((putTap 0 (some ⟨1, 2, 3⟩) State.reset).tap[(0 : Port)] = some ⟨1, 2, 3⟩ ∧
        (capture State.reset).tap[(0 : Port)] = none ∧
        (capture (putTap 0 (some ⟨4, 5, 6⟩) State.reset)).tap[(0 : Port)] = some ⟨4, 5, 6⟩) ∧
      ((capture inFlightState).evActive = true ∧
        0 ≤ ((withGu .xLsb).now : Int) + (capture inFlightState).evRemaining) := by
  refine ⟨by simp [Config.versionHas], ⟨rfl, by decide⟩, ⟨rfl, rfl, rfl⟩, ⟨rfl, by decide, rfl⟩, ⟨rfl, by decide, rfl⟩,
    rfl, by decide⟩

/-- The cases of a version that lacks a field, which `SNAPSHOT_FORMAT` leaves open (log 18), and the other case of a recorded
card, where two contents have different keys (`CARD_MODEL` is open, log 11). -/
theorem witness_RestoreExceptions_open (ver : Nat) (a b : List Byte)
    (hv : ∀ f ∈ [SnapField.ctrlSlot 2, .cardSlot 7, .tap 1, .evRemaining, .cardContents 0], Config.versionHas ver f = false)
    (h : Config.cardContentKey a ≠ Config.cardContentKey b) :
    (∀ f ∈ [SnapField.ctrlSlot 2, .cardSlot 7, .tap 1, .evRemaining, .cardContents 0], Config.versionHas ver f = false) ∧
      (capture (putCard 0 (some ⟨1, a⟩) State.reset)).cardSlot[(0 : Slot)] = some ⟨1, a⟩ ∧
      (putCard 0 (some ⟨2, b⟩) State.reset).cardSlot[(0 : Slot)] = some ⟨2, b⟩ ∧
      Config.cardContentKey a ≠ Config.cardContentKey b := ⟨hv, rfl, rfl, h⟩

/-- A transfer in flight with a register read presented: every invariant holds and the step goes on. -/
theorem witness_StepKeeps :
    let s : State := { inFlightState with pending := [⟨0x100A#16, .none⟩] }
    PendingWellFormed s ∧ PendingTied s ∧ PendingTimed s ∧ UnassignedClear s ∧ EventTied s ∧ StatusFresh s ∧
      ReservedClear s ∧ EventAhead s ∧ s.restoreFailed = false ∧
      step s = .next { inFlightState with outputs := [.read .w16 0x1007#32] } := by
  have hst : ∀ k : Nat, (inFlightState.stat).getLsbD k = decide (k = 0) := by
    intro k
    by_cases hk : k < 32
    · interval_cases k <;> rfl
    · rw [BitVec.getLsbD_of_ge _ _ (by omega), eq_comm]; simp; omega
  have hrestore : ∀ f g, PendingTogether f g { inFlightState with pending := [⟨0x100A#16, .none⟩] } := by
    intro f g op hop ver img hi
    have e : op = ⟨0x100A#16, .none⟩ := by simpa using hop
    subst e
    have h2 : decodeOp ⟨0x100A#16, .none⟩ = .ok .rdCtrl16 := rfl
    rw [h2] at hi
    cases hi
  refine ⟨?_, hrestore _ _, hrestore _ _, unassignedClear_withTw .idle, ?_, ?_, ?_, ?_, rfl, rfl⟩
  · intro op hop i hi
    have e : op = ⟨0x100A#16, .none⟩ := by simpa using hop
    subst e
    have e : Instr.rdCtrl16 = i := by
      have h2 : decodeOp ⟨0x100A#16, .none⟩ = .ok .rdCtrl16 := rfl
      rw [h2] at hi
      exact Except.ok.inj hi
    subst e; rfl
  · simp [EventTied, inFlightState]
  · exact ⟨hst 0, hst 1, hst 2⟩
  · intro k h0 _ _ _ _
    rw [show ({ inFlightState with pending := [⟨0x100A#16, .none⟩] } : State).stat.getLsbD k = _ from hst k]
    simp [h0]
  · intro _; decide

theorem witness_OperationsLeaveParametersAndQueue_OutputsAppendOnly :
    exec .rdCtrl16 State.reset = .next { State.reset with outputs := [.read .w16 0#32] } ∧
      step State.reset = .next State.reset ∧ State.reset.restoreFailed = false ∧ PendingWellFormed State.reset ∧
      PendingTied State.reset ∧ PendingTimed State.reset := by
  refine ⟨rfl, rfl, rfl, fun op h => ?_, fun op h => ?_, fun op h => ?_⟩ <;> simp [State.reset] at h

theorem witness_AssemblerSpellings :
    (AsmReg.modectrl, Width.w16) ∈ [(AsmReg.mode, Width.w32), (.ctrl, .w32), (.baud, .w32), (.modectrl, .w8),
      (.modectrl, .w16)] := by decide

/-- A raise; a polled firing; an advance with `ACKINTEN` clear; a firing in another bus state. -/
theorem witness_OnlyAcknowledgeTickRaises :
    (AckDue (ackDue 0x1007#16 State.reset) ∧ (ackDue 0x1007#16 State.reset).ctrl.getLsbD 12 = true) ∧
      (ackDue 0x0007#16 State.reset).ctrl.getLsbD 12 = false ∧
      (tickDue 0x1007#16 0#8 State.reset).busState ≠ .waitingForAck ∧
      (∃ t, exec .evtFire (ackDue 0x0007#16 State.reset) = .next t) ∧
      exec (.advance 5) State.reset = .next { State.reset with now := 5 } := by
  refine ⟨⟨by simp [AckDue, ackDue], by decide⟩, by decide, by decide, ⟨_, rfl⟩, rfl⟩

end Sys2Proof.Tests
end

