-- ==== Sys2Proof/Proofs/RegisterDecode.lean ====
section
/-! The register words of R93 as numbers, and the decode table settled from the decoder's rule for a `BUS` word. -/

namespace Sys2Proof

/-- The field `W` of a `BUS` word at its place `op[13:12]`: `widthBits` as a summand of the word's value (R91). -/
def widthBase : Width → Nat
  | .w8 => 0x0000
  | .w16 => 0x1000
  | .w32 => 0x2000

/-- The read words that name a register (R93). -/
def namedReadWords : List Nat :=
  [0x0000, 0x1000, 0x2000, 0x0004, 0x1004, 0x2004, 0x0008, 0x1008, 0x2008, 0x000A, 0x100A, 0x000E, 0x100E]

/-- The value of a `BUS` word is the sum of its fields at their places (R91). -/
theorem busWord_toNat (wr : Bool) (w : Width) (off : BitVec 4) :
    (busWord wr w off).toNat = (if wr then 0x4000 else 0) + widthBase w + off.toNat := by
  have hoff := off.isLt
  unfold busWord
  rw [BitVec.toNat_append, ← Nat.shiftLeft_add_eq_or_of_lt hoff]
  cases wr <;> cases w <;> simp [widthBits, widthBase, Nat.shiftLeft_eq]

theorem ofNat_busWord (wr : Bool) (w : Width) (off : BitVec 4) :
    BitVec.ofNat 16 ((if wr then 0x4000 else 0) + widthBase w + off.toNat) = busWord wr w off := by
  rw [← busWord_toNat, BitVec.ofNat_toNat, BitVec.setWidth_eq]

theorem ofNat_readWord (w : Width) (off : BitVec 4) :
    BitVec.ofNat 16 (widthBase w + off.toNat) = busWord false w off := by
  simpa using ofNat_busWord false w off

theorem ofNat_writeWord (w : Width) (off : BitVec 4) :
    BitVec.ofNat 16 (0x4000 + widthBase w + off.toNat) = busWord true w off :=
  ofNat_busWord true w off

/-- An access that names a register has its read word in the table of R93. -/
theorem mem_namedReadWords_of_busReg {w : Width} {off : BitVec 4} {r : BusReg} (h : busReg w off = some r) :
    widthBase w + off.toNat ∈ namedReadWords := by
  unfold busReg at h
  split at h
  case h_9 => cases h
  case h_1 w _ _ hoff | h_2 w _ _ hoff | h_4 w _ _ hoff _ =>
    rw [hoff]
    cases w <;> decide
  all_goals
    rename_i hoff
    rw [hoff]
    decide

theorem busReg_eq_none {w : Width} {off : BitVec 4} (h : widthBase w + off.toNat ∉ namedReadWords) :
    busReg w off = none :=
  Option.eq_none_iff_forall_ne_some.mpr fun _ hr => h (mem_namedReadWords_of_busReg hr)

/-- Settles O4. Each named word is the `BUS` word of its width and offset, so `decodeOp_busRead` and `decodeOp_busWrite` give
its operation; every other one is a `BUS` word whose width and offset name no register. -/
theorem registerDecodeTable : Obligations.RegisterDecodeTable := by
  unfold Obligations.RegisterDecodeTable
  refine ⟨?reads, fun v => ?writes, fun k w off v hk hunnamed => ?undefined⟩
  case reads =>
    simp only [List.forall_mem_cons]
    exact ⟨decodeOp_busRead .w8 0x0, decodeOp_busRead .w16 0x0, decodeOp_busRead .w32 0x0,
      decodeOp_busRead .w8 0x4, decodeOp_busRead .w16 0x4, decodeOp_busRead .w32 0x4,
      decodeOp_busRead .w8 0x8, decodeOp_busRead .w16 0x8, decodeOp_busRead .w32 0x8,
      decodeOp_busRead .w8 0xA, decodeOp_busRead .w16 0xA, decodeOp_busRead .w8 0xE, decodeOp_busRead .w16 0xE,
      List.forall_mem_nil _⟩
  case writes =>
    simp only [List.forall_mem_cons]
    exact ⟨decodeOp_busWrite .w8 0x0 v, decodeOp_busWrite .w16 0x0 v, decodeOp_busWrite .w32 0x0 v,
      decodeOp_busWrite .w8 0x4 v, decodeOp_busWrite .w16 0x4 v, decodeOp_busWrite .w32 0x4 v,
      decodeOp_busWrite .w8 0x8 v, decodeOp_busWrite .w16 0x8 v, decodeOp_busWrite .w32 0x8 v,
      decodeOp_busWrite .w8 0xA v, decodeOp_busWrite .w16 0xA v, decodeOp_busWrite .w8 0xE v,
      decodeOp_busWrite .w16 0xE v, List.forall_mem_nil _⟩
  case undefined =>
    have hbase : k = widthBase w := by
      simp only [List.mem_cons, Prod.mk.injEq, List.not_mem_nil, or_false] at hk
      obtain ⟨rfl, rfl⟩ | ⟨rfl, rfl⟩ | ⟨rfl, rfl⟩ := hk <;> rfl
    subst hbase
    have hreg : busReg w off = none := busReg_eq_none hunnamed
    constructor
    · rw [ofNat_readWord, decodeOp_busRead, rawRead_undefined w off hreg]
    · rw [ofNat_writeWord, decodeOp_busWrite, rawWrite_undefined w off v hreg]

end Sys2Proof
end

section
/-! The register accesses of 40_register_access.md that only answer or only store: reads of the configuration registers and of
undefined offsets, ignored writes, and the combined write of MODE and CTRL. -/

namespace Sys2Proof.Machine

/-! ### Reads that only answer -/

/-- Handing a value to the CPU writes the output list alone (R50). -/
theorem answer_eq (w : Width) (v : Word) (s : State) :
    answer w v s = { s with outputs := s.outputs ++ [.read w (lowBits w v)] } := rfl

/-- A value cut to an access width reads as any bit function it agrees with below that width. -/
theorem readsBits_lowBits {w : Width} {v : Word} {f : Nat → Bool} (h : ∀ k < w.bits, v.getLsbD k = f k) :
    ReadsBits (lowBits w v) w.bits f := by
  intro k
  rw [getLsbD_lowBits]
  by_cases hk : k < w.bits
  · rw [h k hk]
  · simp [hk]

/-- An operation that does no more than answer a value hands over its low bits and leaves the rest of the state. -/
theorem answers_of_exec_eq {i : Instr} {w : Width} {v : Word} {f : Nat → Bool} {s : State}
    (hexec : exec i s = .next (answer w v s)) (hbits : ∀ k < w.bits, v.getLsbD k = f k) :
    ∃ r, ReadsBits r w.bits f ∧ exec i s = .next { s with outputs := s.outputs ++ [.read w r] } :=
  ⟨lowBits w v, readsBits_lowBits hbits, hexec.trans (congrArg _ (answer_eq w v s))⟩

theorem width_bits_le (w : Width) : w.bits ≤ 32 := by
  cases w <;> decide

/-- A read of a 16-bit register answers the register's own bits at every width (R77). -/
theorem answers_half_of_exec_eq {i : Instr} {w : Width} {s : State} (reg : Half)
    (hexec : exec i s = .next (answer w (reg.setWidth 32) s)) :
    ∃ r, ReadsBits r w.bits (fun k => reg.getLsbD k) ∧
      exec i s = .next { s with outputs := s.outputs ++ [.read w r] } := by
  refine answers_of_exec_eq hexec fun k hk => ?_
  have hk32 : k < 32 := Nat.lt_of_lt_of_le hk (width_bits_le w)
  simp [hk32]

theorem getLsbD_allOnes_of_lt {w : Width} {k : Nat} (hk : k < w.bits) : (allOnes w).getLsbD k = true := by
  have hk32 : k < 32 := Nat.lt_of_lt_of_le hk (width_bits_le w)
  have hones : (0xFFFFFFFF#32).getLsbD k = true := by
    rw [show (0xFFFFFFFF#32) = BitVec.allOnes 32 from rfl, BitVec.getLsbD_allOnes, decide_eq_true hk32]
  rw [allOnes, getLsbD_lowBits, hones, decide_eq_true hk, Bool.and_true]

/-- Settles O12. Each read is `answer` of its register with nothing around it, so its value is the register's bits below the
access width; the combined read's two halves are the two parts of the concatenation. -/
theorem configRegisterReads : Obligations.ConfigRegisterReads := by
  unfold Obligations.ConfigRegisterReads
  intro s
  have hmodectrl : ∀ k < Width.w32.bits,
      (s.ctrl ++ s.mode).getLsbD k = if k < 16 then s.mode.getLsbD k else s.ctrl.getLsbD (k - 16) :=
    fun _ _ => BitVec.getLsbD_append
  simp only [List.forall_mem_cons]
  exact ⟨⟨decodeOp_busRead .w8 0x8, answers_half_of_exec_eq s.mode rfl⟩,
    ⟨decodeOp_busRead .w16 0x8, answers_half_of_exec_eq s.mode rfl⟩,
    ⟨decodeOp_busRead .w8 0xA, answers_half_of_exec_eq s.ctrl rfl⟩,
    ⟨decodeOp_busRead .w16 0xA, answers_half_of_exec_eq s.ctrl rfl⟩,
    ⟨decodeOp_busRead .w8 0xE, answers_half_of_exec_eq s.baud rfl⟩,
    ⟨decodeOp_busRead .w16 0xE, answers_half_of_exec_eq s.baud rfl⟩,
    ⟨decodeOp_busRead .w32 0x8, answers_of_exec_eq rfl hmodectrl⟩,
    List.forall_mem_nil _⟩

/-! ### Undefined accesses and STAT writes -/

/-- The offsets that name no register (R93): none of DATA, STAT and offset 8 at any width, and CTRL and BAUD at 32 bits only. -/
theorem busReg_eq_none_of_offset {w : Width} {off : BitVec 4} (hany : off.toNat ∉ [0x0, 0x4, 0x8])
    (hhalf : w ≠ .w32 → off.toNat ∉ [0xA, 0xE]) : busReg w off = none := by
  simp only [List.mem_cons, List.not_mem_nil, or_false, not_or] at hany hhalf
  obtain ⟨hdata, hstat, hmode⟩ := hany
  unfold busReg
  split
  case h_1 h => exact absurd h hdata
  case h_2 h => exact absurd h hstat
  case h_3 h | h_4 h _ => exact absurd h hmode
  case h_5 h | h_6 h => exact absurd h (hhalf (by decide)).1
  case h_7 h | h_8 h => exact absurd h (hhalf (by decide)).2
  case h_9 => rfl

/-- Settles O13. An undefined read is `answer` of all-ones; an undefined write and a STAT write answer the state they were
given; and a word whose width and offset name no register decodes to the undefined access. -/
theorem undefinedAccessesChangeNothing : Obligations.UndefinedAccessesChangeNothing := by
  unfold Obligations.UndefinedAccessesChangeNothing
  intro s w off v
  refine ⟨answers_of_exec_eq rfl fun k hk => getLsbD_allOnes_of_lt hk, ?ignored, ?stat, fun hany hhalf => ?undefined⟩
  case ignored =>
    simp only [List.forall_mem_cons]
    exact ⟨rfl, rfl, rfl, rfl, List.forall_mem_nil _⟩
  case stat =>
    simp only [List.forall_mem_cons]
    exact ⟨decodeOp_busWrite .w8 0x4 v, decodeOp_busWrite .w16 0x4 v, decodeOp_busWrite .w32 0x4 v,
      List.forall_mem_nil _⟩
  case undefined =>
    have hreg : busReg w off = none := busReg_eq_none_of_offset hany hhalf
    constructor
    · rw [decodeOp_busRead, rawRead_undefined w off hreg]
    · rw [decodeOp_busWrite, rawWrite_undefined w off v hreg]

/-! ### The combined write -/

/-- A 16-bit write stores the low half of its value (R78). -/
theorem storeHalf_w16 (v : Word) : storeHalf .w16 v = v.setWidth 16 := by
  rw [storeHalf, lowBits, BitVec.setWidth_setWidth_of_le _ (by decide), BitVec.setWidth_eq]

theorem extractLsb'_eq_setWidth_ushiftRight {n : Nat} (v : BitVec n) (start len : Nat) :
    v.extractLsb' start len = (v >>> start).setWidth len := by
  apply BitVec.eq_of_toNat_eq
  rw [BitVec.extractLsb'_toNat, BitVec.toNat_setWidth, BitVec.toNat_ushiftRight]

/-- The combined write is the 16-bit CTRL write of the high half, on the state with MODE set to the low half (R120). -/
theorem writeModectrl_eq (v : Word) (s : State) :
    writeModectrl v s = writeCtrl .w16 (v >>> 16) (s.setMode (v.setWidth 16)) := by
  have hctrl : storeHalf .w16 ((v.extractLsb' 16 16).setWidth 32) = storeHalf .w16 (v >>> 16) := by
    rw [storeHalf_w16, storeHalf_w16, BitVec.setWidth_setWidth_of_le _ (by decide), BitVec.setWidth_eq,
      extractLsb'_eq_setWidth_ushiftRight]
  rw [writeModectrl, writeCtrl, writeCtrl, hctrl, BitVec.setWidth_eq_extractLsb' (by decide)]

theorem exec_wrModectrl (v : Word) (s : State) :
    exec (.wrModectrl v) s = .next (writeCtrl .w16 (v >>> 16) (s.setMode (v.setWidth 16))) :=
  congrArg Host.Outcome.next (writeModectrl_eq v s)

/-- Settles O20. The word is the `BUS` word of offset 8 at 32 bits, and `exec_wrModectrl` gives the state. -/
theorem combinedWriteIsModeThenCtrl : Obligations.CombinedWriteIsModeThenCtrl := by
  unfold Obligations.CombinedWriteIsModeThenCtrl
  intro s v
  exact ⟨decodeOp_busWrite .w32 0x8 v, _, exec_wrModectrl v s, rfl⟩

end Sys2Proof.Machine
end

section
/-! The soft reset of 41_transfer_engine.md section 6, and the operations that run it: a CTRL write with `RESET` set, which
`SRESET` abbreviates, and `SYSRESET`. -/

namespace Sys2Proof.Machine

/-- An 8-bit write stores the low byte of its value, zero-extended (R78). -/
theorem storeHalf_w8 (v : Word) : storeHalf .w8 v = (v.setWidth 8).setWidth 16 := by
  rw [storeHalf, lowBits, BitVec.setWidth_setWidth_of_le _ (by decide)]

/-- A CTRL write runs R118 on the value it stores, at both widths. -/
theorem exec_of_ctrlWrite {i : Instr} {v : Word} {c : BitVec 16} (hwrite : CtrlWrite i v c) (s : State) :
    exec i s = .next (storeCtrl c s) := by
  obtain ⟨rfl, rfl⟩ | ⟨rfl, rfl⟩ := hwrite
  · rw [← storeHalf_w8]
    rfl
  · rw [← storeHalf_w16]
    rfl

/-- A CTRL write with `RESET` set is a soft reset, whatever else it stores (R160). -/
theorem exec_of_ctrlWrite_reset {i : Instr} {v : Word} {c : BitVec 16} (hwrite : CtrlWrite i v c)
    (hreset : c.getLsbD 6 = true) (s : State) : exec i s = .next (softReset s) := by
  rw [exec_of_ctrlWrite hwrite s, storeCtrl_of_reset c s hreset]

/-- The pseudo-instruction expands to the 16-bit CTRL write of `RESET` alone (R100). -/
theorem exec_sreset (s : State) : exec .sreset s = .next (softReset s) :=
  have hexpands : exec .sreset s = exec (.wrCtrl16 sresetValue) s := rfl
  hexpands.trans (exec_of_ctrlWrite_reset (.inr ⟨rfl, rfl⟩) (by decide) s)

/-- Settles O16. All three ways to reset end in `softReset`, which `softReset_afterReset` describes; the word is the `HOST`
word of operation 0x0C without argument. -/
theorem resetsGiveResetValues : Obligations.ResetsGiveResetValues := by
  unfold Obligations.ResetsGiveResetValues
  intro s v c i
  refine ⟨fun hcause => ⟨softReset s, softReset_afterReset s, ?_⟩, decodeOp_host 0x0C#6 0 (by decide) .none⟩
  obtain ⟨hwrite, hreset⟩ | rfl | rfl := hcause
  case inl => exact exec_of_ctrlWrite_reset hwrite hreset s
  case inr.inl => rfl
  case inr.inr => exact exec_sreset s

end Sys2Proof.Machine
end

section
/-! The two rows of a twist controller's and a light gun's packet that look at the byte sent (R192): `Idle` waits for the select
byte, `Ready` for the class byte. -/

namespace Sys2Proof.Machine

/-! ### The twist controller (R214, R215) -/

theorem twistTransfer_of_idle {d : Twist} (hidle : d.ts = .idle) (p : Params) (b : Byte) :
    twistTransfer p d b = if b = 0x01#8 then twistIdleSel p d else twistIdleMiss p d := by
  rw [twistTransfer, hidle]

theorem twistTransfer_of_ready {d : Twist} (hready : d.ts = .ready) (p : Params) (b : Byte) :
    twistTransfer p d b = if b = 0x42#8 then twistReadyClass d else twistReadyMiss p d := by
  rw [twistTransfer, hready]

/-- A byte that the twist controller does not wait for drops it to `Idle`, unacknowledged (R192). -/
theorem twistTransfer_of_wrongByte {d : Twist} {b : Byte}
    (hwrong : (d.ts = .idle ∧ b ≠ 0x01#8) ∨ (d.ts = .ready ∧ b ≠ 0x42#8)) (p : Params) :
    twistTransfer p d b = ({ d with ts := .idle }, nacked p.nackByte) := by
  obtain ⟨hidle, hb⟩ | ⟨hready, hb⟩ := hwrong
  case inl => rw [twistTransfer_of_idle hidle, if_neg hb, twistIdleMiss]
  case inr => rw [twistTransfer_of_ready hready, if_neg hb, twistReadyMiss]

/-! ### The light gun (R244, R245) -/

theorem gunTransfer_of_idle {d : Gun} (hidle : d.gs = .idle) (p : Params) (b : Byte) :
    gunTransfer p d b = if b = 0x01#8 then gunIdleSel p d else gunIdleMiss p d := by
  rw [gunTransfer, hidle]

theorem gunTransfer_of_ready {d : Gun} (hready : d.gs = .ready) (p : Params) (b : Byte) :
    gunTransfer p d b = if b = 0x42#8 then gunReadyClass d else gunReadyMiss p d := by
  rw [gunTransfer, hready]

/-- A byte that the light gun does not wait for drops it to `Idle`, unacknowledged, with no new position sample (R192). -/
theorem gunTransfer_of_wrongByte {d : Gun} {b : Byte}
    (hwrong : (d.gs = .idle ∧ b ≠ 0x01#8) ∨ (d.gs = .ready ∧ b ≠ 0x42#8)) (p : Params) :
    gunTransfer p d b = ({ d with gs := .idle }, nacked p.nackByte) := by
  obtain ⟨hidle, hb⟩ | ⟨hready, hb⟩ := hwrong
  case inl => rw [gunTransfer_of_idle hidle, if_neg hb, gunIdleMiss]
  case inr => rw [gunTransfer_of_ready hready, if_neg hb, gunReadyMiss]

/-- Settles O38, a device at a time, with `nacked` the reply the statement writes out. -/
theorem wrongCommandByteReturnsToIdle : Obligations.WrongCommandByteReturnsToIdle := by
  unfold Obligations.WrongCommandByteReturnsToIdle
  exact ⟨fun p _ _ hwrong => twistTransfer_of_wrongByte hwrong p, fun p _ _ hwrong => gunTransfer_of_wrongByte hwrong p⟩

end Sys2Proof.Machine
end

section
/-! The light gun's buttons (R254, R255): `SET.BUTTON` on the slot that holds a gun replaces the gun's inputs by
`gunSetButton` of them, and that function has one case for each kind of index. -/

namespace Sys2Proof.Machine

/-! ### A controller slot rewritten in place -/

theorem modifyController_of_slot {s : State} {i : Slot} {c : Controller} (hslot : s.ctrlSlot[i] = some c)
    (f : Controller → Controller) :
    modifyController i f s = { s with ctrlSlot := s.ctrlSlot.set i (some (f c)) } := by
  rw [modifyController, hslot, Option.map_some]
  rfl

/-- Writing back what a slot holds leaves the state as it was. -/
theorem set_ctrlSlot_self {s : State} {i : Slot} {c : Option Controller} (hslot : s.ctrlSlot[i] = c) :
    { s with ctrlSlot := s.ctrlSlot.set i c } = s := by
  have hset : s.ctrlSlot.set i c = s.ctrlSlot := by
    rw [← hslot]
    exact Vector.set_getElem_self i.isLt
  rw [hset]

/-! ### The cases of `gunSetButton` -/

theorem getLsbD_setBit_fin {n : Nat} (v : BitVec n) (j : Fin n) (b : Bool) (k : Nat) :
    (setBit v j.val b).getLsbD k = if j.val = k then b else v.getLsbD k := by
  rw [getLsbD_setBit]
  have hbound : (j.val = k ∧ k < n) ↔ j.val = k := and_iff_left_of_imp fun hjk => hjk ▸ j.isLt
  simp only [hbound]

/-- Shoot-offscreen set to the value it has does not toggle the Trigger again (R254). -/
theorem gunSetButton_offscreen_same {inp : GunInputs} {v : Bool} (hsame : inp.offscreen = v) (p : Params) :
    gunSetButton p inp 3 v = inp := by
  rw [gunSetButton, if_pos rfl, if_pos hsame]

/-- Shoot-offscreen set to the other value takes the Trigger with it (R254). -/
theorem gunSetButton_offscreen_toggle {inp : GunInputs} {v : Bool} (hother : inp.offscreen ≠ v) (p : Params) :
    gunSetButton p inp 3 v =
      { inp with offscreen := v, pressed := setBit inp.pressed p.gunButtonBits[0].val v } := by
  rw [gunSetButton, if_pos rfl, if_neg hother]

/-- An index of the button table writes its own bit (R255). -/
theorem gunSetButton_of_lt {b : Nat} (hb : b < 3) (p : Params) (inp : GunInputs) (v : Bool) :
    gunSetButton p inp b v = { inp with pressed := setBit inp.pressed p.gunButtonBits[b].val v } := by
  have hbit : gunButtonBit p b = some p.gunButtonBits[b] := Vector.getElem?_eq_getElem hb
  rw [gunSetButton, if_neg hb.ne, hbit]

/-- An index above shoot-offscreen's names no input (R255). -/
theorem gunSetButton_of_gt {b : Nat} (hb : 3 < b) (p : Params) (inp : GunInputs) (v : Bool) :
    gunSetButton p inp b v = inp := by
  have hbit : gunButtonBit p b = none := Vector.getElem?_eq_none hb.le
  rw [gunSetButton, if_neg hb.ne', hbit]

/-! ### `SET.BUTTON` on a gun's slot -/

section
variable {s : State} {i : Slot} {d : Gun}

theorem exec_setButton_gun (hslot : s.ctrlSlot[i] = some (.gun d)) (b : Nat) (v : Bool) :
    exec (.setButton i b v) s = .next { s with
      ctrlSlot := s.ctrlSlot.set i (some (.gun { d with inputs := gunSetButton s.params d.inputs b v })) } :=
  congrArg Host.Outcome.next (modifyController_of_slot hslot (controllerSetButton s.params b v))

/-- A button that leaves the gun's inputs alone leaves the whole state alone. -/
theorem exec_setButton_gun_of_fixed (hslot : s.ctrlSlot[i] = some (.gun d)) {b : Nat} {v : Bool}
    (hfixed : gunSetButton s.params d.inputs b v = d.inputs) : exec (.setButton i b v) s = .next s := by
  rw [exec_setButton_gun hslot, hfixed, set_ctrlSlot_self hslot]

end

/-- Settles O41. Each clause is one case of `gunSetButton`; the two that write a button write it by `setBit`, whose bits
`getLsbD_setBit_fin` gives. -/
theorem setButtonOnGun : Obligations.SetButtonOnGun := by
  unfold Obligations.SetButtonOnGun
  intro s i b v d hslot
  refine ⟨?same, ?toggle, fun hb => ?button, fun hb => ?outside⟩
  case same =>
    rintro rfl hsame
    exact exec_setButton_gun_of_fixed hslot (gunSetButton_offscreen_same hsame s.params)
  case toggle =>
    rintro rfl hother
    refine ⟨_, getLsbD_setBit_fin d.inputs.pressed s.params.gunButtonBits[0] v, ?_⟩
    rw [exec_setButton_gun hslot, gunSetButton_offscreen_toggle hother]
  case button =>
    refine ⟨_, getLsbD_setBit_fin d.inputs.pressed s.params.gunButtonBits[b] v, ?_⟩
    rw [exec_setButton_gun hslot, gunSetButton_of_lt hb]
  case outside =>
    exact exec_setButton_gun_of_fixed hslot (gunSetButton_of_gt hb s.params d.inputs v)

end Sys2Proof.Machine
end

section
/-! The block's only interrupt source (R303): the acknowledge tick with `ACKINTEN` set raises, and every other operation is
quiet, as the relation `Quiet` below says. -/

namespace Sys2Proof.Machine

/-! ### Raises, INTR and ACKINTEN under the shared operations -/

@[simp] theorem raises_append_irq (l : List OutEvent) (n : Nat) : raises (l ++ [.irq n]) = raises l ++ [.irq n] :=
  List.filter_append ..

@[simp] theorem raises_append_read (l : List OutEvent) (w : Width) (v : Word) : raises (l ++ [.read w v]) = raises l :=
  (List.filter_append ..).trans (List.append_nil _)

/-- INTR is no derived bit (R154). -/
@[simp] theorem intr_recompute (st : Word) (tf rf : Bool) (bus : BusState) : intr (recompute st tf rf bus) = intr st :=
  getLsbD_recompute st tf rf bus 9

@[simp] theorem intr_withAckin (st : Word) (b : Bool) : intr (withAckin st b) = intr st :=
  getLsbD_setBit st 7 9 b

@[simp] theorem intr_withIntr (st : Word) (b : Bool) : intr (withIntr st b) = b :=
  getLsbD_setBit st 9 9 b

@[simp] theorem ackinten_withRxen (c : BitVec 16) : ackinten (withRxen c) = ackinten c :=
  getLsbD_setBit c 2 12 true

/-! ### Quiet changes of the state -/

/-- From `s` to `t` nothing was raised and INTR was not turned on. -/
structure Quiet (s t : State) : Prop where
  raises_eq : raises t.outputs = raises s.outputs
  intr_of_intr : intr t.stat = true → intr s.stat = true

theorem Quiet.of_frame {s t : State} (houtputs : t.outputs = s.outputs) (hintr : intr t.stat = intr s.stat) : Quiet s t :=
  ⟨congrArg raises houtputs, fun h => hintr ▸ h⟩

theorem Quiet.refl (s : State) : Quiet s s := .of_frame rfl rfl

theorem Quiet.trans {s t u : State} (hst : Quiet s t) (htu : Quiet t u) : Quiet s u :=
  ⟨htu.raises_eq.trans hst.raises_eq, fun h => hst.intr_of_intr (htu.intr_of_intr h)⟩

/-- The only state an operation that answers can lead to is the one it answers. -/
theorem Quiet.of_next {s t u : State} (hexec : (.next u : Host.Outcome State Fault Refusal) = .next t)
    (hquiet : Quiet s u) : Quiet s t := by
  obtain rfl := Host.Outcome.next.inj hexec
  exact hquiet

/-! ### The parts of a transfer -/

theorem quiet_answer (w : Width) (v : Word) (s : State) : Quiet s (answer w v s) :=
  ⟨raises_append_read s.outputs w _, id⟩

theorem quiet_updateStatus (s : State) : Quiet s (updateStatus s) := .of_frame rfl (intr_recompute ..)

theorem quiet_beginTransfer (s : State) : Quiet s (beginTransfer s) := .of_frame rfl (intr_recompute ..)

theorem quiet_endTransfer (s : State) : Quiet s (endTransfer s) := .of_frame rfl (intr_recompute ..)

theorem quiet_deselectAll (s : State) : Quiet s (deselectAll s) :=
  .of_frame (deselectAll_outputs s) (congrArg intr (deselectAll_stat s))

theorem quiet_transferTick (s : State) : Quiet s (transferTick s) := by
  refine .of_frame (transferTick_outputs s) ?_
  rw [transferTick_stat, intr_recompute]

theorem quiet_invokeEarly (s : State) : Quiet s (invokeEarly s) := by
  obtain ⟨-, htick⟩ | hnone := invokeEarly_cases s
  · exact htick ▸ quiet_transferTick s
  · rw [hnone]
    exact .refl s

theorem quiet_softReset (s : State) : Quiet s (softReset s) :=
  ⟨rfl, fun h => absurd (softReset_stat s ▸ h) (by decide)⟩

/-! ### The acknowledge tick -/

theorem ackTickEnd_outputs (s : State) :
    (ackTickEnd s).outputs = if ackinten s.ctrl then s.outputs ++ [.irq Config.irqLine] else s.outputs := by
  unfold ackTickEnd
  split <;> rfl

theorem ackTick_outputs (s : State) : (ackTick s).outputs = (ackTickEnd s).outputs := by
  rw [ackTick_eq]
  split <;> rfl

/-- With `ACKINTEN` set the tick appends one raise, whether or not the next transfer starts (R150, R151). -/
theorem raises_ackTick {s : State} (hack : ackinten s.ctrl = true) :
    raises (ackTick s).outputs = raises s.outputs ++ [.irq Config.irqLine] := by
  rw [ackTick_outputs, ackTickEnd_outputs, if_pos hack, raises_append_irq]

theorem ackTickEnd_of_masked {s : State} (hack : ackinten s.ctrl = false) :
    ackTickEnd s = endTransfer (s.setStat (withAckin s.stat true)) := by
  rw [ackTickEnd, hack, if_neg Bool.false_ne_true]

theorem quiet_ackTick {s : State} (hack : ackinten s.ctrl = false) : Quiet s (ackTick s) := by
  have hackin : Quiet s (s.setStat (withAckin s.stat true)) := .of_frame rfl (intr_withAckin ..)
  have hend : Quiet s (ackTickEnd s) := ackTickEnd_of_masked hack ▸ hackin.trans (quiet_endTransfer _)
  rw [ackTick_eq]
  split
  · exact hend.trans (quiet_beginTransfer _)
  · exact hend

@[simp] theorem ackinten_ackTick (s : State) : ackinten (ackTick s).ctrl = ackinten s.ctrl := by
  rw [ackTick_eq]
  split
  · rw [beginTransfer_ctrl, ackinten_withRxen, ackTickEnd_ctrl]
  · rw [ackTickEnd_ctrl]

/-! ### Firings and the passage of time -/

/-- A firing is quiet unless it is an acknowledge tick with `ACKINTEN` set (R141, R150). -/
theorem quiet_fireEvent {s : State} (h : s.busState ≠ .waitingForAck ∨ ackinten s.ctrl = false) : Quiet s (fireEvent s) := by
  unfold fireEvent
  split
  · exact quiet_transferTick s
  next hbus => exact quiet_ackTick (h.resolve_left (not_not_intro hbus))
  · exact .of_frame rfl rfl

theorem ackinten_fireEvent (s : State) : ackinten (fireEvent s).ctrl = ackinten s.ctrl := by
  unfold fireEvent
  split
  · rw [transferTick_ctrl]
  · exact ackinten_ackTick s
  · rfl

/-- No firing touches `ACKINTEN`, so an advance that begins with it clear has no raising firing (R280). -/
theorem quiet_advanceBy {s : State} (hack : ackinten s.ctrl = false) (n : Nat) : Quiet s (advanceBy n s) := by
  have hadvance : Quiet s (advanceBy n s) ∧ ackinten (advanceBy n s).ctrl = false := by
    refine advanceTo_induct (fun u => Quiet s u ∧ ackinten u.ctrl = false) ?now ?fire _ _ s ⟨.refl s, hack⟩
    case now =>
      rintro u tick ⟨hquiet, hmasked⟩
      exact ⟨hquiet.trans (.of_frame rfl rfl), hmasked⟩
    case fire =>
      rintro u ⟨hquiet, hmasked⟩
      exact ⟨hquiet.trans (quiet_fireEvent (.inr hmasked)), (ackinten_fireEvent u).trans hmasked⟩
  exact hadvance.1

/-! ### Register accesses -/

theorem quiet_readData (w : Width) (s : State) : Quiet s (readData w s) :=
  have hemptied : Quiet (invokeEarly s) (updateStatus ((invokeEarly s).setReceiveFull false)) :=
    .of_frame rfl (intr_recompute ..)
  ((quiet_invokeEarly s).trans hemptied).trans (quiet_answer w _ _)

theorem quiet_readStat (w : Width) (s : State) : Quiet s (readStat w s) :=
  have hcleared : Quiet (invokeEarly s) ((invokeEarly s).setStat (withAckin (invokeEarly s).stat false)) :=
    .of_frame rfl (intr_withAckin ..)
  ((quiet_invokeEarly s).trans hcleared).trans (quiet_answer w _ _)

theorem quiet_writeData (v : Word) (s : State) : Quiet s (writeData v s) := by
  have hlatched : Quiet s ((s.setTransmitBuffer (v.setWidth 8)).setTransmitFull true) := .of_frame rfl rfl
  rw [writeData_eq]
  split
  · exact hlatched.trans (quiet_beginTransfer _)
  · exact hlatched.trans (quiet_updateStatus _)

/-- Step (b) of a CTRL write can only clear INTR (R118). -/
theorem quiet_ctrlStored (c : BitVec 16) (s : State) : Quiet s (ctrlStored c s) := by
  unfold ctrlStored
  split
  · refine ⟨rfl, fun h => ?_⟩
    rw [clearIrq_stat, intr_withIntr] at h
    exact absurd h Bool.false_ne_true
  · exact .of_frame rfl rfl

theorem quiet_applyCtrl (c : BitVec 16) (s : State) : Quiet s (applyCtrl (s.setCtrl c)) := by
  have hstored := quiet_ctrlStored c s
  have hdeselected : Quiet s (deselectAll (ctrlStored c s)) := hstored.trans (quiet_deselectAll _)
  cases hselect : c.getLsbD 1 with
  | false =>
    rw [applyCtrl_of_deselect c s hselect]
    split
    · exact hdeselected.trans (quiet_updateStatus _)
    · exact hdeselected.trans (quiet_endTransfer _)
  | true =>
    cases htxen : c.getLsbD 0 with
    | false =>
      rw [applyCtrl_of_transmit_off c s hselect htxen]
      split
      · exact hstored.trans (quiet_updateStatus _)
      · exact hstored.trans (quiet_endTransfer _)
    | true =>
      rw [applyCtrl_of_start c s hselect htxen]
      split
      · exact hstored.trans (quiet_beginTransfer _)
      · exact hstored.trans (quiet_updateStatus _)

theorem quiet_storeCtrl (c : BitVec 16) (s : State) : Quiet s (storeCtrl c s) := by
  cases hreset : c.getLsbD 6 with
  | false => exact storeCtrl_of_not_reset c s hreset ▸ quiet_applyCtrl c s
  | true => exact storeCtrl_of_reset c s hreset ▸ quiet_softReset s

theorem quiet_writeCtrl (w : Width) (v : Word) (s : State) : Quiet s (writeCtrl w v s) :=
  quiet_storeCtrl (storeHalf w v) s

theorem quiet_writeModectrl (v : Word) (s : State) : Quiet s (writeModectrl v s) := by
  have hmode : Quiet s (s.setMode (v.setWidth 16)) := .of_frame rfl rfl
  rw [writeModectrl_eq]
  exact hmode.trans (quiet_writeCtrl ..)

/-! ### Device rows -/

theorem quiet_exchangeController (i : Slot) (b : Byte) (s : State) : Quiet s (exchangeController i b s).1 := by
  obtain ⟨c, h⟩ := exchangeController_spec i b s
  rw [h]
  exact .of_frame rfl rfl

theorem quiet_exchangeCard (i : Slot) (b : Byte) (s : State) : Quiet s (exchangeCard i b s).1 := by
  obtain ⟨k, h⟩ := exchangeCard_spec i b s
  rw [h]
  exact .of_frame rfl rfl

theorem quiet_exchangeTap (p : Port) (b : Byte) (s : State) : Quiet s (exchangeTap p b s).1 := by
  obtain ⟨c, k, q, h⟩ := exchangeTap_spec p b s
  rw [h]
  exact .of_frame rfl rfl

theorem quiet_of_modelRow {s t : State} {e : State × Option Reply} (hexchange : Quiet s e.1)
    (hrow : modelRow e = .next t) : Quiet s t := by
  obtain ⟨r, -, rfl⟩ := modelRow_next hrow
  exact hexchange.trans (.of_frame rfl rfl)

theorem quiet_of_twistRow {i : Slot} {ts : TwistState} {f : Twist → Twist × Reply} {s t : State}
    (hrow : twistRow i ts f s = .next t) : Quiet s t := by
  obtain ⟨d, -, -, rfl⟩ := twistRow_next hrow
  exact .of_frame rfl rfl

theorem quiet_of_gunRow {i : Slot} {gs : GunState} {f : Gun → Gun × Reply} {s t : State}
    (hrow : gunRow i gs f s = .next t) : Quiet s t := by
  obtain ⟨d, -, -, rfl⟩ := gunRow_next hrow
  exact .of_frame rfl rfl

/-! ### Every operation -/

section
variable {c : Prop} [Decidable c] {r : Refusal} {o : Host.Outcome State Fault Refusal} {t : State}

theorem next_of_ite_refused (h : (if c then o else .refused r) = .next t) : c ∧ o = .next t := by
  split at h
  · exact ⟨‹c›, h⟩
  · cases h

theorem next_of_refused_ite (h : (if c then .refused r else o) = .next t) : o = .next t := by
  split at h
  · cases h
  · exact h

end

/-- An operation that is no restore, no acknowledge tick with `ACKINTEN` set and no advance with it set is quiet. -/
theorem quiet_of_exec {i : Instr} {s t : State} (hexec : exec i s = .next t) (hrestore : ∀ st, i ≠ .restore st)
    (hfire : i ∈ [Instr.evtFire, .evtAck] → s.busState ≠ .waitingForAck ∨ ackinten s.ctrl = false)
    (hadvance : ∀ n, i = .advance n ∨ i = .wait n → ackinten s.ctrl = false) : Quiet s t := by
  cases i with
  | rdData8 | rdData16 | rdData32 => exact .of_next hexec (quiet_readData _ s)
  | rdStat8 | rdStat16 | rdStat32 => exact .of_next hexec (quiet_readStat _ s)
  | rdMode8 | rdMode16 | rdModectrl | rdCtrl8 | rdCtrl16 | rdBaud8 | rdBaud16 | rdUndef =>
    exact .of_next hexec (quiet_answer _ _ s)
  | wrData8 | wrData16 | wrData32 | send => exact .of_next hexec (quiet_writeData _ s)
  | wrCtrl8 | wrCtrl16 | select | selectq | ackclr | deselect | sreset => exact .of_next hexec (quiet_writeCtrl _ _ s)
  | wrModectrl v => exact .of_next hexec (quiet_writeModectrl v s)
  | wrStat8 | wrStat16 | wrStat32 | wrUndef => exact .of_next hexec (.refl s)
  | wrMode8 | wrMode16 | wrBaud8 | wrBaud16 => exact .of_next hexec (.of_frame rfl rfl)
  | evtFire =>
    obtain ⟨-, hnext⟩ := next_of_ite_refused hexec
    exact .of_next hnext (quiet_fireEvent (hfire (by simp)))
  | evtXfer =>
    obtain ⟨-, hadmitted⟩ := next_of_ite_refused hexec
    obtain ⟨-, hnext⟩ := next_of_ite_refused hadmitted
    exact .of_next hnext (quiet_transferTick s)
  | evtAck =>
    obtain ⟨hbus, hadmitted⟩ := next_of_ite_refused hexec
    obtain ⟨-, hnext⟩ := next_of_ite_refused hadmitted
    exact .of_next hnext (quiet_ackTick ((hfire (by simp)).resolve_left (not_not_intro hbus)))
  | advance n => exact .of_next hexec (quiet_advanceBy (hadvance n (.inl rfl)) n)
  | wait n => exact .of_next hexec (quiet_advanceBy (hadvance n (.inr rfl)) n)
  | attachCtrl | detachCtrl | attachCard | detachCard | takeCard | setTap | setButton | setAxis | setPointer | snapshot =>
    exact .of_next hexec (.of_frame rfl rfl)
  | restore st => exact absurd rfl (hrestore st)
  | sysreset => exact .of_next hexec (quiet_softReset s)
  | twIdleMiss | twReadyMiss => exact quiet_of_twistRow (next_of_refused_ite hexec)
  | twIdleSel | twReadyClass | twIdmsb | twBtnlsb | twBtnmsb | twSteer | twAxi | twAxii | twAxl =>
    exact quiet_of_twistRow hexec
  | gunIdleMiss | gunReadyMiss => exact quiet_of_gunRow (next_of_refused_ite hexec)
  | gunIdleSel | gunReadyClass | gunIdmsb | gunBtnlsb | gunBtnmsb | gunXlsb | gunXmsb | gunYlsb | gunYmsb =>
    exact quiet_of_gunRow hexec
  | padTransfer k b =>
    simp only [exec, execPadTransfer] at hexec
    split at hexec
    · exact quiet_of_modelRow (quiet_exchangeController k b s) hexec
    · cases hexec
  | cardTransfer k b => exact quiet_of_modelRow (quiet_exchangeCard k b s) hexec
  | tapTransfer p b => exact quiet_of_modelRow (quiet_exchangeTap p b s) hexec

/-! ### The statement -/

/-- A due acknowledge tick is what both of its spellings run (R141). -/
theorem exec_of_ackDue {i : Instr} {s : State} (hdue : AckDue s) (hi : i ∈ [Instr.evtFire, .evtAck]) :
    exec i s = .next (ackTick s) := by
  obtain ⟨hbus, hactive, hdeadline⟩ := hdue
  have henabled : eventEnabled s = true := by rw [eventEnabled, hactive, decide_eq_true hdeadline, Bool.and_self]
  simp only [List.mem_cons, List.not_mem_nil, or_false] at hi
  obtain rfl | rfl := hi
  · simp only [exec, execEvtFire, fireEvent, henabled, hbus, if_true]
  · simp only [exec, execEvtAck, henabled, hbus, if_true]

/-- Settles O59. A due acknowledge tick runs `ackTick`, which raises; `quiet_of_exec` says that nothing else does, and an intact
restore keeps the output list. -/
theorem onlyAcknowledgeTickRaises : Obligations.OnlyAcknowledgeTickRaises := by
  unfold Obligations.OnlyAcknowledgeTickRaises
  constructor
  · intro s hdue hack i hi
    exact ⟨ackTick s, exec_of_ackDue hdue hi, raises_ackTick hack⟩
  · intro i s t hexec hbroken hfire hadvance
    by_cases hrestore : ∃ st, i = .restore st
    · obtain ⟨_ | _, rfl⟩ := hrestore
      case intact ver img =>
        obtain rfl := Host.Outcome.next.inj hexec
        exact ⟨congrArg raises (restoreImage_outputs (Config.versionHas ver) img s), fun h => absurd rfl (h _)⟩
      case broken => exact absurd rfl hbroken
    · obtain ⟨hraises, hintr⟩ := quiet_of_exec hexec (not_exists.mp hrestore) hfire hadvance
      exact ⟨hraises, fun _ => hintr⟩

end Sys2Proof.Machine
end

section
/-! The passage of time (R280): what one turn of the loop of `ADVANCE` does, that every firing after the first one moves the time
on, and so that the loop's bound on the number of firings is never reached short of the target. -/

namespace Sys2Proof.Machine

/-! ### The firing tick -/

section
variable {s : State} {target : Nat}

theorem firingTick_le (target : Nat) (s : State) : firingTick target s ≤ target :=
  Nat.min_le_left ..

theorem now_le_firingTick (hnow : s.now ≤ target) : s.now ≤ firingTick target s :=
  Nat.le_min.mpr ⟨hnow, Nat.le_max_left ..⟩

theorem deadline_le_firingTick (hdue : s.ev.deadline ≤ target) : s.ev.deadline ≤ firingTick target s := by
  unfold firingTick
  omega

theorem lateness_le (s : State) : lateness s ≤ s.params.maxLateness := by
  unfold lateness
  split
  · exact Nat.zero_le _
  · exact Nat.le_of_lt_succ (Nat.mod_lt _ (Nat.succ_pos _))

/-- An event that is not overdue fires at most `MAX_LATENESS` ticks after its deadline (R280). -/
theorem firingTick_le_late (target : Nat) (hahead : s.now ≤ s.ev.deadline) :
    firingTick target s ≤ s.ev.deadline + s.params.maxLateness := by
  have hlate := lateness_le s
  unfold firingTick
  omega

end

/-! ### The loop of an advance -/

theorem advanceTo_of_fires {s : State} {target : Nat} (hactive : s.ev.active = true) (hdue : s.ev.deadline ≤ target) (n : Nat) :
    advanceTo target (n + 1) s = advanceTo target n (fireEvent (s.setNow (firingTick target s))) := by
  rw [advanceTo, hactive, decide_eq_true hdue, Bool.and_self, if_pos rfl]

theorem advanceTo_of_no_event {s : State} {target : Nat} (hahead : s.ev.active = true → target < s.ev.deadline) (n : Nat) :
    advanceTo target n s = s.setNow target := by
  cases n with
  | zero => rfl
  | succ n =>
    refine if_neg fun hfires => ?_
    obtain ⟨hactive, hdue⟩ := Bool.and_eq_true_iff.mp hfires
    exact absurd (hahead hactive) (Nat.not_lt_of_le (of_decide_eq_true hdue))

/-- The event fires within the advance, or the advance is a jump to its target. -/
theorem fires_or_no_event (target : Nat) (s : State) :
    (s.ev.active = true ∧ s.ev.deadline ≤ target) ∨ (s.ev.active = true → target < s.ev.deadline) := by
  by_cases hfires : s.ev.active = true ∧ s.ev.deadline ≤ target
  · exact .inl hfires
  · exact .inr fun hactive => Nat.lt_of_not_le fun hdue => hfires ⟨hactive, hdue⟩

@[simp] theorem advanceTo_now (target n : Nat) (s : State) : (advanceTo target n s).now = target := by
  induction n generalizing s with
  | zero => rfl
  | succ n ih =>
    unfold advanceTo
    split
    · exact ih _
    · rfl

@[simp] theorem fireEvent_now (s : State) : (fireEvent s).now = s.now := (fireEvent_phase s).1

theorem eventAhead_fireEvent (s : State) : EventAhead (fireEvent s) := fun hactive => by
  rw [fireEvent_now]
  exact (fireEvent_phase s).2 hactive

/-- Once the event lies ahead, a firing comes at a later tick than the state it leaves. -/
theorem now_lt_firingTick {s : State} {target : Nat} (hahead : EventAhead s) (hactive : s.ev.active = true)
    (hdue : s.ev.deadline ≤ target) : s.now < firingTick target s :=
  Nat.lt_of_lt_of_le (hahead hactive) (deadline_le_firingTick hdue)

/-- From an event that lies ahead, as many firings as ticks are left bring the advance to its target with the event ahead again. -/
theorem eventAhead_advanceTo {s : State} {target n : Nat} (hahead : EventAhead s) (hfuel : target ≤ s.now + n) :
    EventAhead (advanceTo target n s) := by
  induction n generalizing s with
  | zero => exact fun hactive => Nat.lt_of_le_of_lt hfuel (hahead hactive)
  | succ n ih =>
    obtain ⟨hactive, hdue⟩ | hnone := fires_or_no_event target s
    · rw [advanceTo_of_fires hactive hdue]
      have hlater := now_lt_firingTick hahead hactive hdue
      refine ih (eventAhead_fireEvent _) ?_
      rw [fireEvent_now, State.setNow_now]
      omega
    · rw [advanceTo_of_no_event hnone]
      exact hnone

/-- Any two bounds that suffice for the ticks left give the same advance. -/
theorem advanceTo_eq_of_fuel {s : State} {target m n : Nat} (hahead : EventAhead s) (hm : target ≤ s.now + m)
    (hn : target ≤ s.now + n) : advanceTo target m s = advanceTo target n s := by
  induction m generalizing s n with
  | zero =>
    have hnone : s.ev.active = true → target < s.ev.deadline := fun hactive => Nat.lt_of_le_of_lt hm (hahead hactive)
    rw [advanceTo_of_no_event hnone, advanceTo_of_no_event hnone]
  | succ m ih =>
    obtain ⟨hactive, hdue⟩ | hnone := fires_or_no_event target s
    · have hlater := now_lt_firingTick hahead hactive hdue
      have hfired : (fireEvent (s.setNow (firingTick target s))).now = firingTick target s := fireEvent_now _
      obtain _ | n := n
      · have hahead := hahead hactive
        omega
      rw [advanceTo_of_fires hactive hdue, advanceTo_of_fires hactive hdue]
      exact ih (eventAhead_fireEvent _) (by omega) (by omega)
    · rw [advanceTo_of_no_event hnone, advanceTo_of_no_event hnone]

/-- An advance over the event's deadline fires it and goes on with the ticks that are left (R280). -/
theorem advanceBy_of_fires {s : State} {n : Nat} (hactive : s.ev.active = true) (hdue : s.ev.deadline ≤ s.now + n) :
    advanceBy n s =
      advanceBy (s.now + n - firingTick (s.now + n) s) (fireEvent (s.setNow (firingTick (s.now + n) s))) := by
  have hle := firingTick_le (s.now + n) s
  have hge : s.now ≤ firingTick (s.now + n) s := now_le_firingTick (Nat.le_add_right ..)
  have hfired : (fireEvent (s.setNow (firingTick (s.now + n) s))).now = firingTick (s.now + n) s := fireEvent_now _
  unfold advanceBy
  rw [advanceTo_of_fires hactive hdue, hfired, Nat.add_sub_of_le hle]
  exact advanceTo_eq_of_fuel (eventAhead_fireEvent _) (by omega) (by omega)

/-- An advance that reaches no event moves the time alone (R280). -/
theorem advanceBy_of_no_event {s : State} {n : Nat} (hahead : s.ev.active = true → s.now + n < s.ev.deadline) :
    advanceBy n s = { s with now := s.now + n } :=
  advanceTo_of_no_event hahead _

theorem advanceBy_now (n : Nat) (s : State) : (advanceBy n s).now = s.now + n := advanceTo_now ..

/-- After an advance no event is due, from an overdue one too: its first firing needs no tick, and every further one needs one. -/
theorem eventAhead_advanceBy (n : Nat) (s : State) : EventAhead (advanceBy n s) := by
  obtain ⟨hactive, hdue⟩ | hnone := fires_or_no_event (s.now + n) s
  · have hge : s.now ≤ firingTick (s.now + n) s := now_le_firingTick (Nat.le_add_right ..)
    rw [advanceBy, advanceTo_of_fires hactive hdue]
    refine eventAhead_advanceTo (eventAhead_fireEvent _) ?_
    rw [fireEvent_now, State.setNow_now]
    omega
  · rw [advanceBy, advanceTo_of_no_event hnone]
    exact hnone

/-! ### The statements -/

/-- Settles O29. -/
theorem advanceWithoutEvent : Obligations.AdvanceWithoutEvent := by
  unfold Obligations.AdvanceWithoutEvent
  intro s n hahead
  have hjump := advanceBy_of_no_event hahead
  exact ⟨congrArg Host.Outcome.next hjump, congrArg Host.Outcome.next hjump⟩

/-- An active event whose deadline is reached fires (R141). -/
theorem exec_evtFire_of_due {s : State} (hactive : s.ev.active = true) (hdue : s.ev.deadline ≤ s.now) :
    exec .evtFire s = .next (fireEvent s) :=
  if_pos (by rw [eventEnabled, hactive, decide_eq_true hdue, Bool.and_self])

/-- Settles O30, with `firingTick` the tick at which the event fires. -/
theorem advanceStopsAtDeadline : Obligations.AdvanceStopsAtDeadline := by
  unfold Obligations.AdvanceStopsAtDeadline
  intro s n hactive hahead hdue
  have hge := deadline_le_firingTick hdue
  exact ⟨firingTick (s.now + n) s, fireEvent (s.setNow (firingTick (s.now + n) s)), advanceBy n s, hge,
    firingTick_le_late _ hahead, firingTick_le .., exec_evtFire_of_due hactive hge, rfl,
    congrArg Host.Outcome.next (advanceBy_of_fires hactive hdue).symm⟩

/-- Settles O31. -/
theorem advanceReachesTarget : Obligations.AdvanceReachesTarget := by
  unfold Obligations.AdvanceReachesTarget
  intro s n
  exact ⟨advanceBy n s, rfl, rfl, advanceBy_now n s, eventAhead_advanceBy n s⟩

end Sys2Proof.Machine
end

section
/-! What every operation keeps, said once: the relation `Keeps` below holds from the state an operation begins in to the one it
answers, for every operation but a restore; the invariants of 10_state.md are its fields. -/

namespace Sys2Proof.Machine

/-! ### The invariants of states that share the fields they speak of -/

/-- A state whose STAT was recomputed last is fresh (R52, R154). -/
theorem statusFresh_of_stat {s : State} {st : Word} (h : s.stat = recompute st s.transmitFull s.receiveFull s.busState) :
    StatusFresh s := by
  unfold StatusFresh
  rw [h]
  exact ⟨getLsbD_recompute _ _ _ _ 0, getLsbD_recompute _ _ _ _ 1, getLsbD_recompute _ _ _ _ 2⟩

/-- A STAT value with its derived bits already at their formulas is its own recompute. -/
theorem recompute_of_statusFresh {s : State} (h : StatusFresh s) :
    recompute s.stat s.transmitFull s.receiveFull s.busState = s.stat := by
  obtain ⟨h0, h1, h2⟩ := h
  apply BitVec.eq_of_getLsbD_eq
  intro k _
  rw [getLsbD_recompute]
  split_ifs with hk0 hk1 hk2
  · rw [hk0, h0]
  · rw [hk1, h1]
  · rw [hk2, h2]
  · rfl

theorem reservedClear_of_recompute {s t : State} {tf rf : Bool} {bus : BusState} (h : t.stat = recompute s.stat tf rf bus)
    (hs : ReservedClear s) : ReservedClear t := by
  intro k h0 h1 h2 h7 h9
  rw [h, getLsbD_recompute, if_neg h0, if_neg h1, if_neg h2]
  exact hs k h0 h1 h2 h7 h9

/-! ### The relation -/

/-- What an operation that is no restore keeps from `s` to `t`, whatever time passes in it. -/
structure KeepsBlock (s t : State) : Prop where
  params_eq : t.params = s.params
  pending_eq : t.pending = s.pending
  restoreFailed_eq : t.restoreFailed = s.restoreFailed
  outputs_prefix : s.outputs <+: t.outputs
  statusFresh : StatusFresh s → StatusFresh t
  reservedClear : ReservedClear s → ReservedClear t
  eventTied : EventTied s → EventTied t
  unassignedClear : UnassignedClear s → UnassignedClear t

/-- What an operation that is no restore keeps from its beginning `s` to its end `t`. -/
structure Keeps (s t : State) : Prop extends KeepsBlock s t where
  eventAhead : EventAhead s → EventAhead t

theorem KeepsBlock.trans {s t u : State} (hst : KeepsBlock s t) (htu : KeepsBlock t u) : KeepsBlock s u where
  params_eq := htu.params_eq.trans hst.params_eq
  pending_eq := htu.pending_eq.trans hst.pending_eq
  restoreFailed_eq := htu.restoreFailed_eq.trans hst.restoreFailed_eq
  outputs_prefix := hst.outputs_prefix.trans htu.outputs_prefix
  statusFresh := fun h => htu.statusFresh (hst.statusFresh h)
  reservedClear := fun h => htu.reservedClear (hst.reservedClear h)
  eventTied := fun h => htu.eventTied (hst.eventTied h)
  unassignedClear := fun h => htu.unassignedClear (hst.unassignedClear h)

theorem Keeps.trans {s t u : State} (hst : Keeps s t) (htu : Keeps t u) : Keeps s u where
  toKeepsBlock := hst.toKeepsBlock.trans htu.toKeepsBlock
  eventAhead := fun h => htu.eventAhead (hst.eventAhead h)

/-- The fields that the parts of a transfer leave alone and `Keeps` speaks of. -/
def background (s : State) : Vector (Option Controller) 8 × List OutEvent × Bool × Params × List Op :=
  (s.ctrlSlot, s.outputs, s.restoreFailed, s.params, s.pending)

theorem unassignedClear_of_slots {s t : State} (hslots : t.ctrlSlot = s.ctrlSlot) (hparams : t.params = s.params)
    (hs : UnassignedClear s) : UnassignedClear t := by
  intro i c hc
  rw [hparams]
  exact hs i c (hslots ▸ hc)

/-- An operation that ends in a status recompute and leaves the background alone keeps all but, of itself, the event. -/
theorem Keeps.of_recompute {s t : State} (hback : background t = background s)
    (hstat : t.stat = recompute s.stat t.transmitFull t.receiveFull t.busState) (htied : EventTied s → EventTied t)
    (hahead : EventAhead s → EventAhead t) : Keeps s t := by
  obtain ⟨hslots, houtputs, hfailed, hparams, hpending⟩ : t.ctrlSlot = s.ctrlSlot ∧ t.outputs = s.outputs ∧
      t.restoreFailed = s.restoreFailed ∧ t.params = s.params ∧ t.pending = s.pending := by
    simpa only [background, Prod.mk.injEq] using hback
  exact {
    params_eq := hparams
    pending_eq := hpending
    restoreFailed_eq := hfailed
    outputs_prefix := houtputs ▸ List.prefix_rfl
    statusFresh := fun _ => statusFresh_of_stat hstat
    reservedClear := reservedClear_of_recompute hstat
    eventTied := htied
    unassignedClear := unassignedClear_of_slots hslots hparams
    eventAhead := hahead }

/-- The fields that the derived STAT bits and the event's invariants speak of. -/
def statusAndEvent (s : State) : Bool × Bool × BusState × Event × Nat :=
  (s.transmitFull, s.receiveFull, s.busState, s.ev, s.now)

/-- An operation that leaves the latches' flags, the phase, the event and the time alone keeps what the rest of the state
keeps. -/
theorem Keeps.of_status {s t : State} (hsame : statusAndEvent t = statusAndEvent s)
    (hstat : ∀ k, k ≠ 7 → k ≠ 9 → t.stat.getLsbD k = s.stat.getLsbD k) (hparams : t.params = s.params)
    (hpending : t.pending = s.pending) (hfailed : t.restoreFailed = s.restoreFailed) (houtputs : s.outputs <+: t.outputs)
    (hunassigned : UnassignedClear s → UnassignedClear t) : Keeps s t := by
  obtain ⟨htf, hrf, hbus, hev, hnow⟩ : t.transmitFull = s.transmitFull ∧ t.receiveFull = s.receiveFull ∧
      t.busState = s.busState ∧ t.ev = s.ev ∧ t.now = s.now := by
    simpa only [statusAndEvent, Prod.mk.injEq] using hsame
  exact {
    params_eq := hparams
    pending_eq := hpending
    restoreFailed_eq := hfailed
    outputs_prefix := houtputs
    statusFresh := by
      unfold StatusFresh
      rw [htf, hrf, hbus, hstat 0 (by decide) (by decide), hstat 1 (by decide) (by decide), hstat 2 (by decide) (by decide)]
      exact id
    reservedClear := fun h k h0 h1 h2 h7 h9 => (hstat k h7 h9).trans (h k h0 h1 h2 h7 h9)
    eventTied := by
      unfold EventTied
      rw [hev, hbus]
      exact id
    unassignedClear := hunassigned
    eventAhead := by
      unfold EventAhead
      rw [hev, hnow]
      exact id }

/-- A change of fields that `Keeps` does not speak of. -/
theorem Keeps.of_frame {s t : State} (hback : background t = background s) (hsame : statusAndEvent t = statusAndEvent s)
    (hstat : t.stat = s.stat) : Keeps s t := by
  obtain ⟨hslots, houtputs, hfailed, hparams, hpending⟩ : t.ctrlSlot = s.ctrlSlot ∧ t.outputs = s.outputs ∧
      t.restoreFailed = s.restoreFailed ∧ t.params = s.params ∧ t.pending = s.pending := by
    simpa only [background, Prod.mk.injEq] using hback
  exact .of_status hsame (fun k _ _ => by rw [hstat]) hparams hpending hfailed (houtputs ▸ List.prefix_rfl)
    (unassignedClear_of_slots hslots hparams)

theorem Keeps.refl (s : State) : Keeps s s := .of_frame rfl rfl rfl

/-- The only state an operation that answers can lead to is the one it answers. -/
theorem Keeps.of_next {s t u : State} (hexec : (.next u : Host.Outcome State Fault Refusal) = .next t) (hkeeps : Keeps s u) :
    Keeps s t := by
  obtain rfl := Host.Outcome.next.inj hexec
  exact hkeeps

/-! ### Status, interrupt, outputs -/

theorem keeps_emit (e : OutEvent) (s : State) : Keeps s (emit e s) :=
  .of_status rfl (fun _ _ _ => rfl) rfl rfl rfl (List.prefix_append ..) id

theorem keeps_answer (w : Width) (v : Word) (s : State) : Keeps s (answer w v s) := keeps_emit _ s

theorem keeps_updateStatus (s : State) : Keeps s (updateStatus s) := .of_recompute rfl rfl id id

theorem keeps_withAckin (b : Bool) (s : State) : Keeps s (s.setStat (withAckin s.stat b)) := by
  refine .of_status rfl (fun k h7 _ => ?_) rfl rfl rfl List.prefix_rfl id
  rw [State.setStat_stat, withAckin, getLsbD_setBit, if_neg fun h => h7 h.1.symm]

theorem keeps_withIntr (b : Bool) (s : State) : Keeps s (s.setStat (withIntr s.stat b)) := by
  refine .of_status rfl (fun k _ h9 => ?_) rfl rfl rfl List.prefix_rfl id
  rw [State.setStat_stat, withIntr, getLsbD_setBit, if_neg fun h => h9 h.1.symm]

theorem keeps_raiseIrq (s : State) : Keeps s (raiseIrq s) := (keeps_withIntr true s).trans (keeps_emit _ _)

/-! ### Slots -/

theorem getElem_set_slot {α : Type} {n : Nat} (v : Vector α n) (i j : Fin n) (x : α) :
    (v.set i x)[j] = if i = j then x else v[j] := by
  simp only [Fin.getElem_fin, Vector.getElem_set, Fin.ext_iff]

/-- A controller put in a slot has to bring a mask with its unassigned bits 0. -/
theorem keeps_putController {i : Slot} {c : Option Controller} {s : State}
    (hc : UnassignedClear s → ∀ d, c = some d → UnassignedClearOf s.params d) : Keeps s (putController i c s) := by
  refine .of_status rfl (fun _ _ _ => rfl) rfl rfl rfl List.prefix_rfl fun hs j d hd => ?_
  rw [putController_ctrlSlot, getElem_set_slot] at hd
  split at hd
  · exact hc hs d hd
  · exact hs j d hd

theorem keeps_modifyController {i : Slot} {f : Controller → Controller} {s : State}
    (hf : ∀ c, UnassignedClearOf s.params c → UnassignedClearOf s.params (f c)) : Keeps s (modifyController i f s) := by
  refine keeps_putController fun hs d hd => ?_
  obtain ⟨c, hc, rfl⟩ := Option.map_eq_some_iff.mp hd
  exact hf c (hs i c hc)

theorem keeps_putCard (i : Slot) (c : Option Card) (s : State) : Keeps s (putCard i c s) := .of_frame rfl rfl rfl

theorem keeps_putTap (p : Port) (t : Option Tap) (s : State) : Keeps s (putTap p t s) := .of_frame rfl rfl rfl

theorem keeps_setReturned (r : Option Returned) (s : State) : Keeps s (s.setReturned r) := .of_frame rfl rfl rfl

theorem keeps_setActiveDevice (d : ActiveDevice) (s : State) : Keeps s (s.setActiveDevice d) := .of_frame rfl rfl rfl

/-! ### Controllers and their masks (R212, R242) -/

theorem unassignedClearOf_resetController {p : Params} {c : Controller} (h : UnassignedClearOf p c) :
    UnassignedClearOf p (resetController c) := by
  cases c <;> exact h

theorem twistTransfer_inputs (p : Params) (d : Twist) (b : Byte) : (twistTransfer p d b).1.inputs = d.inputs := by
  unfold twistTransfer
  split <;> first | rfl | (split <;> rfl)

theorem gunTransfer_inputs (p : Params) (d : Gun) (b : Byte) : (gunTransfer p d b).1.inputs = d.inputs := by
  unfold gunTransfer
  split <;> first | rfl | (split <;> rfl)

theorem unassignedClearOf_controllerTransfer {p : Params} {c : Controller} (b : Byte) (h : UnassignedClearOf p c) :
    UnassignedClearOf p (controllerTransfer p c b).1 := by
  cases c with
  | pad d => exact h
  | twist d =>
    simp only [controllerTransfer, UnassignedClearOf, twistTransfer_inputs]
    exact h
  | gun d =>
    simp only [controllerTransfer, UnassignedClearOf, gunTransfer_inputs]
    exact h

/-- Setting an assigned bit leaves the unassigned ones alone. -/
theorem getLsbD_setBit_assigned {bits : List (Fin 16)} {j : Fin 16} (hj : j ∈ bits) (m : BitVec 16) (b : Bool) {k : Nat}
    (hk : ∀ i ∈ bits, i.val ≠ k) : (setBit m j.val b).getLsbD k = m.getLsbD k := by
  rw [getLsbD_setBit_fin, if_neg (hk j hj)]

theorem unassignedClearOf_setButton {p : Params} (b : Nat) (v : Bool) {c : Controller} (h : UnassignedClearOf p c) :
    UnassignedClearOf p (controllerSetButton p b v c) := by
  cases c with
  | pad d => exact h
  | twist d =>
    intro k hk
    simp only [twistSetButton]
    split
    next j hj => exact (getLsbD_setBit_assigned (List.mem_of_getElem? hj) _ v hk).trans (h k hk)
    next => exact h k hk
  | gun d =>
    intro k hk
    have hassigned : ∀ (n : Nat) (hn : n < 3), (setBit d.inputs.pressed p.gunButtonBits[n].val v).getLsbD k = false :=
      fun n hn => (getLsbD_setBit_assigned (Vector.mem_toList_iff.mpr (Vector.getElem_mem hn)) _ v hk).trans (h k hk)
    obtain hb | rfl | hb := Nat.lt_trichotomy b 3
    · simpa only [gunSetButton_of_lt hb] using hassigned b hb
    · by_cases hsame : d.inputs.offscreen = v
      · simpa only [gunSetButton_offscreen_same hsame] using h k hk
      · simpa only [gunSetButton_offscreen_toggle hsame] using hassigned 0 (by decide)
    · simpa only [gunSetButton_of_gt hb] using h k hk

theorem unassignedClearOf_setAxis {p : Params} (a : Nat) (x : RealNum) {c : Controller} (h : UnassignedClearOf p c) :
    UnassignedClearOf p (controllerSetAxis p a x c) := by
  cases c with
  | pad d => exact h
  | twist d =>
    simp only [controllerSetAxis, twistSetAxis]
    split <;> exact h
  | gun d => exact h

theorem unassignedClearOf_setPointer {p : Params} (q : Option Pointer) {c : Controller} (h : UnassignedClearOf p c) :
    UnassignedClearOf p (controllerSetPointer q c) := by
  cases c <;> exact h

/-- The bits of a table are the only ones a mask handed in from outside keeps (log 27). -/
theorem getLsbD_keepAssigned_of_unassigned {bits : List (Fin 16)} (m : BitVec 16) {k : Nat} (hk : ∀ j ∈ bits, j.val ≠ k) :
    (keepAssigned bits m).getLsbD k = false := by
  rw [getLsbD_keepAssigned, decide_eq_false fun ⟨j, hj, hjk⟩ => hk j hj hjk, Bool.false_and]

theorem unassignedClearOf_attachController (p : Params) (c : CtrlInit) (pos : BeamPos) :
    UnassignedClearOf p (attachController p c pos) := by
  cases c with
  | pad i => trivial
  | twist i => exact fun k hk => getLsbD_keepAssigned_of_unassigned _ hk
  | gun i => exact fun k hk => getLsbD_keepAssigned_of_unassigned _ hk

/-! ### Exchanges and arbitration -/

theorem keeps_exchangeController (i : Slot) (b : Byte) (s : State) : Keeps s (exchangeController i b s).1 := by
  unfold exchangeController
  split
  · exact .refl s
  next c hc =>
    refine keeps_putController fun hs d hd => ?_
    obtain rfl := Option.some.inj hd
    exact unassignedClearOf_controllerTransfer b (hs i c hc)

theorem keeps_exchangeCard (i : Slot) (b : Byte) (s : State) : Keeps s (exchangeCard i b s).1 := by
  obtain ⟨k, h⟩ := exchangeCard_spec i b s
  rw [h]
  exact .of_frame rfl rfl rfl

theorem keeps_exchangeSub (p : Port) (t : TapTarget) (b : Byte) (s : State) : Keeps s (exchangeSub p t b s).1 := by
  cases t with
  | controller k => exact keeps_exchangeController _ b s
  | card k => exact keeps_exchangeCard _ b s

theorem keeps_relayCalls (p : Port) (t : Tap) (b : Byte) (n : Nat) (rs : List (Option Reply)) (s : State) :
    Keeps s (relayCalls p t b n rs s).1 := by
  induction n generalizing rs s with
  | zero => exact .refl s
  | succ n ih =>
    unfold relayCalls
    split
    · exact .refl s
    · exact (keeps_exchangeSub p _ _ s).trans (ih _ _)

theorem keeps_exchangeTap (p : Port) (b : Byte) (s : State) : Keeps s (exchangeTap p b s).1 := by
  unfold exchangeTap
  split
  · exact .refl s
  · exact (keeps_relayCalls ..).trans (keeps_putTap ..)

/-- Locking the class that acknowledged, or not. -/
theorem keeps_lock {c : Prop} [Decidable c] (d : ActiveDevice) (s : State) :
    Keeps s (if c then s.setActiveDevice d else s) := by
  split
  · exact keeps_setActiveDevice d s
  · exact .refl s

theorem keeps_arbitrate (p : Port) (idx : Slot) (b : Byte) (s : State) : Keeps s (arbitrate p idx b s).1 := by
  have htap : Keeps s (arbitrateTap p b s).1 := (keeps_exchangeTap p b s).trans (keeps_lock ..)
  have hcard (r : Reply) (u : State) : Keeps u (arbitrateCard idx b r u).1 := (keeps_exchangeCard idx b u).trans (keeps_lock ..)
  have hslot : Keeps s (arbitrateSlot idx b s).1 := by
    unfold arbitrateSlot
    dsimp only
    split
    · exact (keeps_exchangeController idx b s).trans (keeps_setActiveDevice ..)
    · exact (keeps_exchangeController idx b s).trans (hcard ..)
  unfold arbitrate
  split
  · unfold arbitrateFree
    split
    · exact htap
    · exact hslot
  · exact keeps_exchangeController idx b s
  · exact keeps_exchangeCard idx b s
  · exact keeps_exchangeTap p b s

/-! ### The parts of a transfer -/

theorem eventTied_of_active {s : State} (hactive : s.ev.active = true) (hbus : s.busState ≠ .idle) : EventTied s :=
  iff_of_true hactive hbus

theorem eventTied_of_inactive {s : State} (hactive : s.ev.active = false) (hbus : s.busState = .idle) : EventTied s :=
  iff_of_false (Bool.eq_false_iff.mp hactive) (not_not_intro hbus)

theorem eventAhead_of_inactive {s : State} (hactive : s.ev.active = false) : EventAhead s :=
  fun h => absurd h (Bool.eq_false_iff.mp hactive)

theorem ackTicks_pos (p : Port) (s : State) : 0 < ackTicks p s := by
  unfold ackTicks Config.ackTicksCard Config.ackTicksCtrl
  split <;> omega

/-- A begun transfer is tied to an event ahead, whatever state it is begun in, and its status is fresh. -/
theorem Keeps.of_beginTransfer {s u : State} (hback : background u = background s) (hstat : u.stat = s.stat) :
    Keeps s (beginTransfer u) := by
  refine .of_recompute hback (by rw [beginTransfer_stat, hstat]; rfl) (fun _ => eventTied_of_active rfl (by simp)) fun _ _ => ?_
  exact Nat.lt_add_of_pos_right (Nat.lt_of_lt_of_le Nat.one_pos (Nat.le_max_left ..))

/-- An ended transfer is tied to an inactive event, whatever state it is ended in, and its status is fresh. -/
theorem Keeps.of_endTransfer {s u : State} (hback : background u = background s) (hstat : u.stat = s.stat) :
    Keeps s (endTransfer u) :=
  .of_recompute hback (by rw [endTransfer_stat, hstat]; rfl) (fun _ => eventTied_of_inactive rfl rfl)
    fun _ => eventAhead_of_inactive rfl

theorem keeps_beginTransfer (s : State) : Keeps s (beginTransfer s) := .of_beginTransfer rfl rfl

theorem keeps_endTransfer (s : State) : Keeps s (endTransfer s) := .of_endTransfer rfl rfl

theorem keeps_latch (r : Reply) (p : Port) (s : State) : Keeps s (latch r p s) := by
  cases hack : r.ack with
  | false =>
    rw [latch_nack r p s hack]
    exact .of_endTransfer rfl rfl
  | true =>
    rw [latch_ack r p s hack]
    refine .of_recompute (by simp [background]) (by simp) (fun _ => eventTied_of_active rfl (by simp)) fun _ _ => ?_
    rw [ackWait_ev]
    exact Nat.lt_add_of_pos_right (ackTicks_pos ..)

theorem keeps_transferTick (s : State) : Keeps s (transferTick s) := (keeps_arbitrate ..).trans (keeps_latch ..)

theorem keeps_invokeEarly (s : State) : Keeps s (invokeEarly s) := by
  obtain ⟨-, htick⟩ | hnone := invokeEarly_cases s
  · exact htick ▸ keeps_transferTick s
  · rw [hnone]
    exact .refl s

theorem keeps_ackTick (s : State) : Keeps s (ackTick s) := by
  have hend : Keeps s (ackTickEnd s) := by
    unfold ackTickEnd
    split
    · exact ((keeps_withAckin true s).trans (keeps_raiseIrq _)).trans (keeps_endTransfer _)
    · exact (keeps_withAckin true s).trans (keeps_endTransfer _)
  rw [ackTick_eq]
  split
  · exact hend.trans (keeps_beginTransfer _)
  · exact hend

theorem keeps_fireEvent (s : State) : Keeps s (fireEvent s) := by
  unfold fireEvent
  split
  · exact keeps_transferTick s
  · exact keeps_ackTick s
  next hidle =>
    exact { Keeps.refl s with
      eventTied := fun _ => eventTied_of_inactive rfl hidle
      eventAhead := fun _ => eventAhead_of_inactive rfl }

theorem keepsBlock_setNow (n : Nat) (s : State) : KeepsBlock s (s.setNow n) := { Keeps.refl s with }

theorem keeps_advanceBy (n : Nat) (s : State) : Keeps s (advanceBy n s) where
  toKeepsBlock := advanceTo_induct (KeepsBlock s) (fun u tick h => h.trans (keepsBlock_setNow tick u))
    (fun u h => h.trans (keeps_fireEvent u).toKeepsBlock) _ _ s (Keeps.refl s).toKeepsBlock
  eventAhead := fun _ => eventAhead_advanceBy n s

/-! ### Resets -/

theorem unassignedClear_resetDevices {s t : State} (hslots : t.ctrlSlot = s.ctrlSlot.map (Option.map resetController))
    (hparams : t.params = s.params) (hs : UnassignedClear s) : UnassignedClear t := by
  intro i c hc
  rw [hslots, Fin.getElem_fin, Vector.getElem_map] at hc
  obtain ⟨d, hd, rfl⟩ := Option.map_eq_some_iff.mp hc
  rw [hparams]
  exact unassignedClearOf_resetController (hs i d hd)

theorem keeps_deselectAll (s : State) : Keeps s (deselectAll s) :=
  .of_status (by simp [statusAndEvent]) (by simp) (by simp) (by simp) (by simp) (by simp)
    (unassignedClear_resetDevices (deselectAll_ctrlSlot s) (deselectAll_params s))

theorem softReset_stat_eq_recompute (s : State) : (softReset s).stat = recompute 0#32 false false .idle := rfl

theorem eventTied_softReset (s : State) : EventTied (softReset s) :=
  eventTied_of_inactive (congrArg Event.active (softReset_ev s)) (softReset_busState s)

theorem keeps_softReset (s : State) : Keeps s (softReset s) where
  params_eq := softReset_params s
  pending_eq := softReset_pending s
  restoreFailed_eq := softReset_restoreFailed s
  outputs_prefix := softReset_outputs s ▸ List.prefix_rfl
  statusFresh := fun _ => statusFresh_of_stat (softReset_stat_eq_recompute s)
  reservedClear := fun _ => reservedClear_of_recompute (s := s.setStat 0#32) (softReset_stat_eq_recompute s)
    fun _ _ _ _ _ _ => BitVec.getLsbD_zero
  eventTied := fun _ => eventTied_softReset s
  unassignedClear := unassignedClear_resetDevices (softReset_ctrlSlot s) (softReset_params s)
  eventAhead := fun _ => eventAhead_of_inactive (congrArg Event.active (softReset_ev s))

/-! ### Register accesses -/

theorem keeps_readData (w : Width) (s : State) : Keeps s (readData w s) :=
  have hemptied : Keeps (invokeEarly s) (updateStatus ((invokeEarly s).setReceiveFull false)) := .of_recompute rfl rfl id id
  ((keeps_invokeEarly s).trans hemptied).trans (keeps_answer ..)

theorem keeps_readStat (w : Width) (s : State) : Keeps s (readStat w s) :=
  ((keeps_invokeEarly s).trans (keeps_withAckin false _)).trans (keeps_answer ..)

theorem keeps_writeData (v : Word) (s : State) : Keeps s (writeData v s) := by
  rw [writeData_eq]
  split
  · exact .of_beginTransfer rfl rfl
  · exact .of_recompute rfl rfl id id

theorem keeps_ctrlStored (c : BitVec 16) (s : State) : Keeps s (ctrlStored c s) := by
  have hstored : Keeps s (s.setCtrl c) := .of_frame rfl rfl rfl
  unfold ctrlStored
  split
  · exact hstored.trans (keeps_withIntr false _)
  · exact hstored

theorem keeps_applyCtrl (c : BitVec 16) (s : State) : Keeps s (applyCtrl (s.setCtrl c)) := by
  have hstored := keeps_ctrlStored c s
  have hdeselected : Keeps s (deselectAll (ctrlStored c s)) := hstored.trans (keeps_deselectAll _)
  cases hselect : c.getLsbD 1 with
  | false =>
    rw [applyCtrl_of_deselect c s hselect]
    split
    · exact hdeselected.trans (keeps_updateStatus _)
    · exact hdeselected.trans (keeps_endTransfer _)
  | true =>
    cases htxen : c.getLsbD 0 with
    | false =>
      rw [applyCtrl_of_transmit_off c s hselect htxen]
      split
      · exact hstored.trans (keeps_updateStatus _)
      · exact hstored.trans (keeps_endTransfer _)
    | true =>
      rw [applyCtrl_of_start c s hselect htxen]
      split
      · exact hstored.trans (keeps_beginTransfer _)
      · exact hstored.trans (keeps_updateStatus _)

theorem keeps_writeCtrl (w : Width) (v : Word) (s : State) : Keeps s (writeCtrl w v s) := by
  unfold writeCtrl
  cases hreset : (storeHalf w v).getLsbD 6 with
  | false => exact storeCtrl_of_not_reset _ s hreset ▸ keeps_applyCtrl _ s
  | true => exact storeCtrl_of_reset _ s hreset ▸ keeps_softReset s

theorem keeps_writeModectrl (v : Word) (s : State) : Keeps s (writeModectrl v s) := by
  have hmode : Keeps s (s.setMode (v.setWidth 16)) := .of_frame rfl rfl rfl
  rw [writeModectrl_eq]
  exact hmode.trans (keeps_writeCtrl ..)

/-! ### Device rows -/

theorem keeps_of_modelRow {s t : State} {e : State × Option Reply} (hexchange : Keeps s e.1) (hrow : modelRow e = .next t) :
    Keeps s t := by
  obtain ⟨r, -, rfl⟩ := modelRow_next hrow
  exact hexchange.trans (keeps_setReturned ..)

theorem keeps_of_twistRow {i : Slot} {ts : TwistState} {f : Twist → Twist × Reply} {s t : State}
    (hinputs : ∀ d, (f d).1.inputs = d.inputs) (hrow : twistRow i ts f s = .next t) : Keeps s t := by
  obtain ⟨d, hslot, -, rfl⟩ := twistRow_next hrow
  refine (keeps_putController fun hs c hc => ?_).trans (keeps_setReturned ..)
  obtain rfl := Option.some.inj hc
  simp only [UnassignedClearOf, hinputs]
  exact hs i _ hslot

theorem keeps_of_gunRow {i : Slot} {gs : GunState} {f : Gun → Gun × Reply} {s t : State}
    (hinputs : ∀ d, (f d).1.inputs = d.inputs) (hrow : gunRow i gs f s = .next t) : Keeps s t := by
  obtain ⟨d, hslot, -, rfl⟩ := gunRow_next hrow
  refine (keeps_putController fun hs c hc => ?_).trans (keeps_setReturned ..)
  obtain rfl := Option.some.inj hc
  simp only [UnassignedClearOf, hinputs]
  exact hs i _ hslot

/-! ### Every operation -/

/-- Every operation that answers a next state and is no restore keeps all of `Keeps`. -/
theorem keeps_of_exec {i : Instr} {s t : State} (hexec : exec i s = .next t) (hrestore : ∀ st, i ≠ .restore st) : Keeps s t := by
  cases i with
  | rdData8 | rdData16 | rdData32 => exact .of_next hexec (keeps_readData _ s)
  | rdStat8 | rdStat16 | rdStat32 => exact .of_next hexec (keeps_readStat _ s)
  | rdMode8 | rdMode16 | rdModectrl | rdCtrl8 | rdCtrl16 | rdBaud8 | rdBaud16 | rdUndef =>
    exact .of_next hexec (keeps_answer _ _ s)
  | wrData8 | wrData16 | wrData32 | send => exact .of_next hexec (keeps_writeData _ s)
  | wrCtrl8 | wrCtrl16 | select | selectq | ackclr | deselect | sreset => exact .of_next hexec (keeps_writeCtrl _ _ s)
  | wrModectrl v => exact .of_next hexec (keeps_writeModectrl v s)
  | wrStat8 | wrStat16 | wrStat32 | wrUndef => exact .of_next hexec (.refl s)
  | wrMode8 | wrMode16 | wrBaud8 | wrBaud16 => exact .of_next hexec (.of_frame rfl rfl rfl)
  | evtFire =>
    obtain ⟨-, hnext⟩ := next_of_ite_refused hexec
    exact .of_next hnext (keeps_fireEvent s)
  | evtXfer =>
    obtain ⟨-, hadmitted⟩ := next_of_ite_refused hexec
    obtain ⟨-, hnext⟩ := next_of_ite_refused hadmitted
    exact .of_next hnext (keeps_transferTick s)
  | evtAck =>
    obtain ⟨-, hadmitted⟩ := next_of_ite_refused hexec
    obtain ⟨-, hnext⟩ := next_of_ite_refused hadmitted
    exact .of_next hnext (keeps_ackTick s)
  | advance n | wait n => exact .of_next hexec (keeps_advanceBy n s)
  | attachCtrl k c =>
    have hput : Keeps s (putController k (some (attachController s.params c (Config.freeGunPos s.draws))) s) :=
      keeps_putController fun _ d hd => Option.some.inj hd ▸ unassignedClearOf_attachController ..
    exact .of_next hexec (hput.trans (.of_frame rfl rfl rfl))
  | detachCtrl k => exact .of_next hexec (keeps_putController fun _ d hd => nomatch hd)
  | attachCard | detachCard | takeCard | setTap | snapshot => exact .of_next hexec (.of_frame rfl rfl rfl)
  | setButton k b v => exact .of_next hexec (keeps_modifyController fun _ => unassignedClearOf_setButton b v)
  | setAxis k a x => exact .of_next hexec (keeps_modifyController fun _ => unassignedClearOf_setAxis a x)
  | setPointer k q => exact .of_next hexec (keeps_modifyController fun _ => unassignedClearOf_setPointer q)
  | restore st => exact absurd rfl (hrestore st)
  | sysreset => exact .of_next hexec (keeps_softReset s)
  | twIdleMiss | twReadyMiss => exact keeps_of_twistRow (fun _ => rfl) (next_of_refused_ite hexec)
  | twIdleSel | twReadyClass | twIdmsb | twBtnlsb | twBtnmsb | twSteer | twAxi | twAxii | twAxl =>
    exact keeps_of_twistRow (fun _ => rfl) hexec
  | gunIdleMiss | gunReadyMiss => exact keeps_of_gunRow (fun _ => rfl) (next_of_refused_ite hexec)
  | gunIdleSel | gunReadyClass | gunIdmsb | gunBtnlsb | gunBtnmsb | gunXlsb | gunXmsb | gunYlsb | gunYmsb =>
    exact keeps_of_gunRow (fun _ => rfl) hexec
  | padTransfer k b =>
    simp only [exec, execPadTransfer] at hexec
    split at hexec
    · exact keeps_of_modelRow (keeps_exchangeController k b s) hexec
    · cases hexec
  | cardTransfer k b => exact keeps_of_modelRow (keeps_exchangeCard k b s) hexec
  | tapTransfer p b => exact keeps_of_modelRow (keeps_exchangeTap p b s) hexec

end Sys2Proof.Machine
end

section
/-! The invariants over a step. `exec_cases` says what an operation can do: all of `Keeps`, or a restore; `step_keeps` carries a
property from there to a step, and each invariant is then what a restore does to it. -/

namespace Sys2Proof.Machine

/-! ### What an operation and a step can do -/

/-- The state a restore of an intact snapshot answers (R282). -/
abbrev restored (ver : Nat) (img : Image) (s : State) : State :=
  (restoreImage (Config.versionHas ver) img s).setReturned (some (.restored true))

/-- The state a restore of a broken stream answers (R285). -/
abbrev restoreBroken (s : State) : State := (scramble s).setReturned (some (.restored false))

theorem exec_cases {i : Instr} {s t : State} (hexec : exec i s = .next t) :
    Keeps s t ∨ (∃ ver img, i = .restore (.intact ver img) ∧ t = restored ver img s) ∨
      (i = .restore .broken ∧ t = restoreBroken s) := by
  by_cases hrestore : ∃ st, i = .restore st
  · obtain ⟨st, rfl⟩ := hrestore
    cases st with
    | intact ver img => exact .inr (.inl ⟨ver, img, rfl, (Host.Outcome.next.inj hexec).symm⟩)
    | broken => exact .inr (.inr ⟨rfl, (Host.Outcome.next.inj hexec).symm⟩)
  · exact .inl (keeps_of_exec hexec (not_exists.mp hrestore))

/-- What a property of states in runs without a failed restore needs to hold after every step: the operations that keep all of
`Keeps` keep it, and so do the restores presented. -/
theorem step_keeps {P : State → Prop} {s s' : State} (hpop : ∀ u rest, P u → P (u.setPending rest))
    (hkeeps : ∀ u v, Keeps u v → P u → P v)
    (hrestore : ∀ u ver img, (∃ op ∈ s.pending, decodeOp op = .ok (.restore (.intact ver img))) → P u → P (restored ver img u))
    (hs : s.restoreFailed = false → P s) (hstep : step s = .next s') (hfailed : s'.restoreFailed = false) : P s' := by
  have hexecuted {i : Instr} {u : State} (hu : u.restoreFailed = false → P u) (hi : ∀ st, i = .restore st →
      ∃ op ∈ s.pending, decodeOp op = .ok (.restore st)) (hexec : exec i u = .next s') : P s' := by
    obtain hkept | ⟨ver, img, rfl, rfl⟩ | ⟨-, rfl⟩ := exec_cases hexec
    · exact hkeeps u s' hkept (hu (hkept.restoreFailed_eq ▸ hfailed))
    · refine hrestore u ver img (hi _ rfl) (hu ?_)
      rwa [State.setReturned_restoreFailed, restoreImage_restoreFailed] at hfailed
    · exact absurd hfailed (by simp [scramble])
  obtain ⟨-, hfire⟩ | ⟨-, -, rfl⟩ | ⟨-, op, rest, i, hpending, hdecode, hexec⟩ := step_next_cases hstep
  · exact hexecuted (i := .evtFire) hs (fun st h => nomatch h) hfire
  · exact hs hfailed
  · refine hexecuted (fun h => hpop s rest (hs h)) (fun st hst => ⟨op, ?_, hst ▸ hdecode⟩) hexec
    exact hpending ▸ List.mem_cons_self

/-! ### Well-formed snapshots -/

/-- What the well-formedness of the operations presented says of a snapshot among them (R36, R51). -/
theorem consistent_of_presented {s : State} {ver : Nat} {img : Image} (hpending : PendingWellFormed s)
    (hpresented : ∃ op ∈ s.pending, decodeOp op = .ok (.restore (.intact ver img))) :
    (img.evActive = true ↔ img.busState ≠ .idle) ∧ (img.evActive = true → 0 < img.evRemaining) ∧
      img.stat &&& statReserved = 0#32 := by
  obtain ⟨op, hop, hdecode⟩ := hpresented
  have hconsistent : img.consistent = true := hpending op hop _ hdecode
  obtain ⟨⟨htied, hahead⟩, hreserved⟩ : ((img.evActive == (img.busState != .idle)) = true ∧
      (!img.evActive || decide (0 < img.evRemaining)) = true) ∧ (img.stat &&& statReserved == 0#32) = true := by
    simpa only [Image.consistent, Bool.and_eq_true] using hconsistent
  refine ⟨?_, ?_, eq_of_beq hreserved⟩
  · rw [eq_of_beq htied, bne_iff_ne]
  · intro hactive
    simpa [hactive] using hahead

/-- The reserved bits of STAT are the ones its mask holds (R36). -/
theorem getLsbD_statReserved {k : Nat} (hk : k < 32) (h0 : k ≠ 0) (h1 : k ≠ 1) (h2 : k ≠ 2) (h7 : k ≠ 7) (h9 : k ≠ 9) :
    statReserved.getLsbD k = true := by
  have hmask : ∀ j : Fin 32, j.val ≠ 0 → j.val ≠ 1 → j.val ≠ 2 → j.val ≠ 7 → j.val ≠ 9 → statReserved.getLsbD j.val = true := by
    decide
  exact hmask ⟨k, hk⟩ h0 h1 h2 h7 h9

theorem reservedClear_of_masked {v : Word} (h : v &&& statReserved = 0#32) {k : Nat} (h0 : k ≠ 0) (h1 : k ≠ 1) (h2 : k ≠ 2)
    (h7 : k ≠ 7) (h9 : k ≠ 9) : v.getLsbD k = false := by
  by_cases hk : k < 32
  · have hbit := congrArg (BitVec.getLsbD · k) h
    simpa [getLsbD_statReserved hk h0 h1 h2 h7 h9] using hbit
  · exact BitVec.getLsbD_of_ge _ _ (Nat.le_of_not_lt hk)

/-! ### What a restore keeps -/

section
variable {ver : Nat} {img : Image} {s : State}

/-- A restore ends with the status recompute (log 21). -/
theorem statusFresh_restored : StatusFresh (restored ver img s) :=
  statusFresh_of_stat (restoreImage_stat (Config.versionHas ver) img s)

theorem reservedClear_restored (himg : img.stat &&& statReserved = 0#32) (hs : ReservedClear s) :
    ReservedClear (restored ver img s) := by
  intro k h0 h1 h2 h7 h9
  rw [State.setReturned_stat, restoreImage_stat, getLsbD_recompute, if_neg h0, if_neg h1, if_neg h2]
  exact pickBits_clear _ (reservedClear_of_masked himg h0 h1 h2 h7 h9) (hs k h0 h1 h2 h7 h9)

theorem eventTied_restored (himg : img.evActive = true ↔ img.busState ≠ .idle)
    (htogether : Config.versionHas ver .busState = Config.versionHas ver .evActive) (hs : EventTied s) :
    EventTied (restored ver img s) := by
  simp only [EventTied, State.setReturned_ev, State.setReturned_busState, restoreImage_ev, restoreImage_busState, restoredEvent,
    htogether, pick]
  split
  · exact himg
  · exact hs

theorem eventAhead_restored (himg : img.evActive = true → 0 < img.evRemaining)
    (htogether : Config.versionHas ver .evActive = Config.versionHas ver .evRemaining) (hs : EventAhead s) :
    EventAhead (restored ver img s) := by
  simp only [EventAhead, State.setReturned_ev, State.setReturned_now, restoreImage_ev, restoreImage_now, restoredEvent,
    htogether, pick]
  split
  · intro hactive
    have hremaining := himg hactive
    omega
  · exact hs

end

theorem unassignedClearOf_restoreSameVariant {p : Params} (has : SnapField → Bool) (i : Slot) (recorded : Option Controller)
    {live : Controller} (hlive : UnassignedClearOf p live) :
    UnassignedClearOf p (restoreSameVariant p has i recorded live) := by
  unfold restoreSameVariant
  split
  · trivial
  · exact fun k hk => pickBits_clear _ (getLsbD_keepAssigned_of_unassigned _ hk) (hlive k hk)
  · exact fun k hk => pickBits_clear _ (getLsbD_keepAssigned_of_unassigned _ hk) (hlive k hk)
  · exact unassignedClearOf_resetController hlive

/-- A restore clears the unassigned bits of a recorded mask (log 27). -/
theorem unassignedClear_restored {ver : Nat} {img : Image} {s : State} (hs : UnassignedClear s) :
    UnassignedClear (restored ver img s) := by
  intro i c hc
  rw [State.setReturned_ctrlSlot, restoreImage_ctrlSlot, Fin.getElem_fin, Vector.getElem_ofFn] at hc
  obtain ⟨live, hlive, rfl⟩ := Option.map_eq_some_iff.mp hc
  rw [State.setReturned_params, restoreImage_params, restoreController, pick]
  split
  · exact unassignedClearOf_restoreSameVariant _ _ _ (hs i live hlive)
  · exact hs i live hlive

/-! ### The statements -/

/-- Settles O52. The only operation that `Keeps` leaves out is a restore, whose block is tied and whose version does not split
the tie. -/
theorem stepKeepsEventTied : Obligations.StepKeepsEventTied := by
  unfold Obligations.StepKeepsEventTied
  intro s s' hwell htied hs hstep
  refine step_keeps (fun _ _ h => h) (fun _ _ hkept => hkept.eventTied) (fun u ver img hpresented hu => ?_) hs hstep
  obtain ⟨himg, -, -⟩ := consistent_of_presented hwell hpresented
  obtain ⟨op, hop, hdecode⟩ := hpresented
  exact eventTied_restored himg (htied op hop ver img hdecode) hu

/-- Settles O53. -/
theorem stepKeepsStatusFresh : Obligations.StepKeepsStatusFresh := by
  unfold Obligations.StepKeepsStatusFresh
  intro s s' hs hstep
  exact step_keeps (fun _ _ h => h) (fun _ _ hkept => hkept.statusFresh) (fun _ _ _ _ _ => statusFresh_restored) hs hstep

/-- Settles O55. The only operation that `Keeps` leaves out is a restore, whose event is ahead and whose version does not split
the event. -/
theorem stepKeepsEventAhead : Obligations.StepKeepsEventAhead := by
  unfold Obligations.StepKeepsEventAhead
  intro s s' hwell htimed hs hstep
  refine step_keeps (fun _ _ h => h) (fun _ _ hkept => hkept.eventAhead) (fun u ver img hpresented hu => ?_) hs hstep
  obtain ⟨-, himg, -⟩ := consistent_of_presented hwell hpresented
  obtain ⟨op, hop, hdecode⟩ := hpresented
  exact eventAhead_restored himg (htimed op hop ver img hdecode) hu

/-- Settles O54. -/
theorem stepKeepsReservedClear : Obligations.StepKeepsReservedClear := by
  unfold Obligations.StepKeepsReservedClear
  constructor
  · intro s s' hwell hs hstep
    refine step_keeps (fun _ _ h => h) (fun _ _ hkept => hkept.reservedClear) (fun u ver img hpresented hu => ?_) hs hstep
    obtain ⟨-, -, himg⟩ := consistent_of_presented hwell hpresented
    exact reservedClear_restored himg hu
  · intro s v
    simp only [List.forall_mem_cons]
    exact ⟨rfl, rfl, rfl, List.forall_mem_nil _⟩

/-- No operation writes the parameters or the list of presented operations, and none clears the mark of R285. -/
theorem exec_params_pending {i : Instr} {s t : State} (hexec : exec i s = .next t) :
    t.params = s.params ∧ t.pending = s.pending ∧ (s.restoreFailed = true → t.restoreFailed = true) := by
  obtain hkept | ⟨ver, img, -, rfl⟩ | ⟨-, rfl⟩ := exec_cases hexec
  · exact ⟨hkept.params_eq, hkept.pending_eq, fun h => hkept.restoreFailed_eq.trans h⟩
  · rw [State.setReturned_params, State.setReturned_pending, State.setReturned_restoreFailed, restoreImage_restoreFailed]
    exact ⟨restoreImage_params .., restoreImage_pending .., id⟩
  · exact ⟨rfl, rfl, fun _ => rfl⟩

/-- A step performs at most the next operation presented. -/
theorem step_params_pending {s s' : State} (hstep : step s = .next s') : s'.params = s.params ∧ s'.pending ⊆ s.pending := by
  obtain ⟨-, hfire⟩ | ⟨-, -, rfl⟩ | ⟨-, op, rest, i, hpending, -, hexec⟩ := step_next_cases hstep
  · obtain ⟨hparams, hsame, -⟩ := exec_params_pending hfire
    exact ⟨hparams, hsame ▸ List.Subset.refl _⟩
  · exact ⟨rfl, List.Subset.refl _⟩
  · obtain ⟨hparams, hrest, -⟩ := exec_params_pending hexec
    rw [hparams, hrest, hpending]
    exact ⟨rfl, List.subset_cons_self ..⟩

/-- Settles O57. -/
theorem operationsLeaveParametersAndQueue : Obligations.OperationsLeaveParametersAndQueue := by
  unfold Obligations.OperationsLeaveParametersAndQueue
  refine ⟨fun i s t => exec_params_pending, fun s s' hstep => ?_, fun s s' hs hstep => ?_⟩
  · obtain ⟨hparams, hpending⟩ := step_params_pending hstep
    exact ⟨hparams, fun h op hop => h op (hpending hop), fun h op hop => h op (hpending hop), fun h op hop => h op (hpending hop)⟩
  · exact step_keeps (fun _ _ h => h) (fun _ _ hkept => hkept.unassignedClear) (fun _ _ _ _ => unassignedClear_restored) hs hstep

/-- Settles O58, as the invariant that the output list begins with the one at the beginning. -/
theorem outputsAppendOnly : Obligations.OutputsAppendOnly := by
  unfold Obligations.OutputsAppendOnly
  intro s s' hstep
  refine step_keeps (P := fun u => s.outputs <+: u.outputs) (fun _ _ h => h) (fun _ _ hkept h => h.trans hkept.outputs_prefix)
    (fun u ver img _ h => ?_) (fun _ => List.prefix_rfl) hstep
  rw [State.setReturned_outputs, restoreImage_outputs]
  exact h

end Sys2Proof.Machine
end

section
/-! The decoder and the encoder against each other (R90 to R97): what each way of decoding a word presupposes, said once per
format, gives both directions of the round trip, the illegal words and the spellings of the assembler. -/

namespace Sys2Proof

/-! ### `BUS` words (R91 to R94) -/

theorem widthOfBits_eq_some_iff {n : Nat} {w : Width} : widthOfBits n = some w ↔ n = (widthBits w).toNat := by
  unfold widthOfBits
  split <;> cases w <;> simp [widthBits]
  all_goals omega

/-- The offset at which the window holds a register (R93). -/
def busOffset : BusReg → BitVec 4
  | .data => 0x0#4
  | .stat => 0x4#4
  | .mode => 0x8#4
  | .modectrl => 0x8#4
  | .ctrl => 0xA#4
  | .baud => 0xE#4

theorem eq_busOffset_of_busReg {w : Width} {off : BitVec 4} {r : BusReg} (h : busReg w off = some r) : off = busOffset r := by
  unfold busReg at h
  split at h
  case h_9 => cases h
  all_goals
    obtain rfl := Option.some.inj h
    exact BitVec.eq_of_toNat_eq ‹_›

/-- Every raw read has the word of its width and offset (R91, R99). -/
theorem encode_rawRead (w : Width) (off : BitVec 4) : encode (rawRead w off) = encodeRead w off := by
  unfold rawRead
  split
  case h_14 => rfl
  all_goals
    rename_i hreg
    rw [eq_busOffset_of_busReg hreg]
    rfl

/-- Every raw write has the word of its width and offset (R91, R99). -/
theorem encode_rawWrite (w : Width) (off : BitVec 4) (v : Word) : encode (rawWrite w off v) = encodeWrite w off v := by
  unfold rawWrite
  split
  case h_14 => rfl
  all_goals
    rename_i hreg
    rw [eq_busOffset_of_busReg hreg]
    rfl

/-- A word with `Z = 0` and a legal width is the `BUS` word of its fields (R91). -/
theorem eq_busWord {write : Bool} {wd : Width} {w : BitVec 16} (hkind : (w.extractLsb' 14 2).toNat = if write then 1 else 0)
    (hwidth : widthOfBits (w.extractLsb' 12 2).toNat = some wd) (hz : w.extractLsb' 4 8 = 0#8) :
    w = busWord write wd (w.extractLsb' 0 4) := by
  obtain ⟨hkind', hwidth', hz', hoff'⟩ := busWord_fields write wd (w.extractLsb' 0 4)
  rw [widthOfBits_eq_some_iff] at hwidth hwidth'
  exact word_ext_bus (BitVec.eq_of_toNat_eq (hkind.trans hkind'.symm)) (BitVec.eq_of_toNat_eq (hwidth.trans hwidth'.symm))
    (hz.trans hz'.symm) hoff'.symm

/-- What a `BUS` word that decodes stands for. -/
theorem encode_of_decodeBus {write : Bool} {w : BitVec 16} {o : Operand} {i : Instr} (h : decodeBus write w o = .ok i)
    (hkind : (w.extractLsb' 14 2).toNat = if write then 1 else 0) : encode i = .op ⟨w, o⟩ := by
  unfold decodeBus at h
  split at h
  · cases h
  next wd hwidth =>
    split at h
    next hz =>
      have hword := eq_busWord hkind hwidth hz
      split at h
      · obtain rfl := Except.ok.inj h
        rw [encode_rawRead, encodeRead, ← hword]
      · obtain rfl := Except.ok.inj h
        rw [encode_rawWrite, encodeWrite, ← hword]
      · cases h
    · cases h

/-- A reserved width or a nonzero `Z` is refused, whatever the operand (R94). -/
theorem decodeBus_illegal (write : Bool) {w : BitVec 16} (o : Operand)
    (h : w.extractLsb' 12 2 = 3#2 ∨ w.extractLsb' 4 8 ≠ 0#8) :
    decodeBus write w o = .error .reservedWidth ∨ decodeBus write w o = .error .nonzeroZ := by
  unfold decodeBus
  split
  · exact .inl rfl
  next wd hwidth =>
    refine .inr (if_neg (h.resolve_left fun hreserved => ?_))
    rw [hreserved] at hwidth
    cases hwidth

/-- The operand of a `BUS` word's kind is all that decoding it takes, when its width is legal and `Z` is 0. -/
theorem decodeBus_legal {w : BitVec 16} (hwidth : w.extractLsb' 12 2 ≠ 3#2) (hz : w.extractLsb' 4 8 = 0#8) (v : Word) :
    (∃ i, decodeBus false w .none = .ok i) ∧ ∃ i, decodeBus true w (.value v) = .ok i := by
  unfold decodeBus
  split
  next hnone =>
    have hall : ∀ b : BitVec 2, widthOfBits b.toNat = none → b = 3#2 := by decide
    exact absurd (hall _ hnone) hwidth
  · exact ⟨⟨_, if_pos hz⟩, ⟨_, if_pos hz⟩⟩

/-! ### `EVT` words (R95) -/

theorem encode_of_decodeEvt {w : BitVec 16} {o : Operand} {i : Instr} (h : decodeEvt (w.extractLsb' 0 14).toNat o = .ok i)
    (hkind : (w.extractLsb' 14 2).toNat = 2) : encode i = .op ⟨w, o⟩ := by
  have hword {n : BitVec 14} (hn : (w.extractLsb' 0 14).toNat = n.toNat) : w = 2#2 ++ n := by
    apply word_ext_event
    · rw [BitVec.eq_of_toNat_eq hkind (y := 2#2)]
      exact (BitVec.extractLsb'_append_eq_left ..).symm
    · rw [BitVec.eq_of_toNat_eq hn]
      exact (BitVec.extractLsb'_append_eq_right ..).symm
  unfold decodeEvt at h
  split at h
  case h_1 hn =>
    obtain rfl := Except.ok.inj h
    rw [hword (n := 0#14) hn]
    rfl
  case h_2 hn =>
    obtain rfl := Except.ok.inj h
    rw [hword (n := 1#14) hn]
    rfl
  case h_3 hn =>
    obtain rfl := Except.ok.inj h
    rw [hword (n := 2#14) hn]
    rfl
  all_goals cases h

theorem decodeEvt_illegal {sub : Nat} (hsub : 3 ≤ sub) (o : Operand) : decodeEvt sub o = .error .illegalEvent := by
  obtain ⟨n, rfl⟩ := Nat.exists_eq_add_of_le' hsub
  rfl

/-! ### `HOST` words (R96) -/

section
variable {arg : Nat}

theorem slotArg_val (k : Slot) : slotArg k.val = .ok k := dif_pos k.isLt

theorem portArg_val (p : Port) : portArg p.val = .ok p := dif_pos p.isLt

theorem withSlot_val (k : Slot) (f : Slot → Instr) : withSlot k.val (some f) = .ok (f k) := by
  simp only [withSlot, slotArg_val]

theorem withPort_val (p : Port) (f : Port → Instr) : withPort p.val (some f) = .ok (f p) := by
  simp only [withPort, portArg_val]

theorem withSlot_illegal (harg : 8 ≤ arg) (r : Option (Slot → Instr)) : withSlot arg r = .error .illegalArg := by
  have hillegal : slotArg arg = .error .illegalArg := dif_neg (Nat.not_lt_of_le harg)
  simp only [withSlot, hillegal]

theorem withPort_illegal (harg : 2 ≤ arg) (r : Option (Port → Instr)) : withPort arg r = .error .illegalArg := by
  have hillegal : portArg arg = .error .illegalArg := dif_neg (Nat.not_lt_of_le harg)
  simp only [withPort, hillegal]

theorem withZeroArg_illegal (harg : arg ≠ 0) (r : Option Instr) : withZeroArg arg r = .error .illegalArg := by
  simp only [withZeroArg, decide_eq_false harg]

theorem withSlot_ok {r : Option (Slot → Instr)} {i : Instr} (h : withSlot arg r = .ok i) :
    ∃ k f, arg = k.val ∧ r = some f ∧ i = f k := by
  obtain harg | harg := Nat.lt_or_ge arg 8
  · obtain ⟨k, rfl⟩ : ∃ k : Slot, arg = k.val := ⟨⟨arg, harg⟩, rfl⟩
    cases r with
    | none =>
      simp only [withSlot, slotArg_val] at h
      cases h
    | some f => exact ⟨k, f, rfl, rfl, (Except.ok.inj ((withSlot_val k f).symm.trans h)).symm⟩
  · rw [withSlot_illegal harg] at h
    cases h

theorem withPort_ok {r : Option (Port → Instr)} {i : Instr} (h : withPort arg r = .ok i) :
    ∃ p f, arg = p.val ∧ r = some f ∧ i = f p := by
  obtain harg | harg := Nat.lt_or_ge arg 2
  · obtain ⟨p, rfl⟩ : ∃ p : Port, arg = p.val := ⟨⟨arg, harg⟩, rfl⟩
    cases r with
    | none =>
      simp only [withPort, portArg_val] at h
      cases h
    | some f => exact ⟨p, f, rfl, rfl, (Except.ok.inj ((withPort_val p f).symm.trans h)).symm⟩
  · rw [withPort_illegal harg] at h
    cases h

theorem withZeroArg_ok {r : Option Instr} {i : Instr} (h : withZeroArg arg r = .ok i) : arg = 0 ∧ r = some i := by
  by_cases harg : arg = 0
  · subst harg
    cases r with
    | none => cases h
    | some j => exact ⟨rfl, congrArg some (Except.ok.inj h)⟩
  · rw [withZeroArg_illegal harg] at h
    cases h

end

/-- What a `HOST` word that decodes stands for. -/
theorem encode_of_decodeHost {hop arg : Nat} {o : Operand} {i : Instr} (h : decodeHost hop arg o = .ok i) :
    encode i = encodeHost (BitVec.ofNat 6 hop) arg o := by
  unfold decodeHost at h
  split at h
  case h_14 => cases h
  case h_1 | h_11 | h_12 | h_13 =>
    obtain ⟨rfl, hoperand⟩ := withZeroArg_ok h
    split at hoperand
    · obtain rfl := Option.some.inj hoperand
      rfl
    · cases hoperand
  case h_7 =>
    obtain ⟨p, f, rfl, hoperand, rfl⟩ := withPort_ok h
    split at hoperand
    · obtain rfl := Option.some.inj hoperand
      rfl
    · cases hoperand
  all_goals
    obtain ⟨k, f, rfl, hoperand, rfl⟩ := withSlot_ok h
    split at hoperand
    · obtain rfl := Option.some.inj hoperand
      rfl
    · cases hoperand

/-- A word of kind 11 is the `HOST` word of its fields (R96). -/
theorem eq_hostWord {w : BitVec 16} (hkind : (w.extractLsb' 14 2).toNat = 3) :
    w = hostWord (w.extractLsb' 8 6) (w.extractLsb' 0 8).toNat := by
  obtain ⟨hkind', hhop', harg'⟩ := hostWord_fields (w.extractLsb' 8 6) (w.extractLsb' 0 8).toNat (BitVec.isLt _)
  exact word_ext_host (BitVec.eq_of_toNat_eq (hkind.trans hkind'.symm)) hhop'.symm (BitVec.eq_of_toNat_eq harg'.symm)

theorem decodeHost_illegalHop {hop : Nat} (hhop : 0x0D ≤ hop) (arg : Nat) (o : Operand) :
    decodeHost hop arg o = .error .illegalHop := by
  obtain ⟨n, rfl⟩ := Nat.exists_eq_add_of_le' hhop
  rfl

theorem decodeHost_illegalSlot {hop arg : Nat} (hhop : hop ∈ [0x01, 0x02, 0x03, 0x04, 0x05, 0x07, 0x08, 0x09]) (harg : 8 ≤ arg)
    (o : Operand) : decodeHost hop arg o = .error .illegalArg := by
  simp only [List.mem_cons, List.not_mem_nil, or_false] at hhop
  obtain rfl | rfl | rfl | rfl | rfl | rfl | rfl | rfl := hhop <;> exact withSlot_illegal harg _

theorem decodeHost_illegalPort {arg : Nat} (harg : 2 ≤ arg) (o : Operand) : decodeHost 0x06 arg o = .error .illegalArg :=
  withPort_illegal harg _

theorem decodeHost_illegalZeroArg {hop arg : Nat} (hhop : hop ∈ [0x00, 0x0A, 0x0B, 0x0C]) (harg : arg ≠ 0) (o : Operand) :
    decodeHost hop arg o = .error .illegalArg := by
  simp only [List.mem_cons, List.not_mem_nil, or_false] at hhop
  obtain rfl | rfl | rfl | rfl := hhop <;> exact withZeroArg_illegal harg _

/-! ### The formats as ranges of the word's value (R90) -/

section
variable {w : BitVec 16} (o : Operand)

theorem extractLsb'_toNat_eq (w : BitVec 16) (start len : Nat) :
    (w.extractLsb' start len).toNat = w.toNat / 2 ^ start % 2 ^ len := by
  rw [BitVec.extractLsb'_toNat, Nat.shiftRight_eq_div_pow]

theorem decodeOp_of_read (h : w.toNat < 0x4000) : decodeOp ⟨w, o⟩ = decodeBus false w o := by
  have hkind : (w.extractLsb' 14 2).toNat = 0 := by rw [extractLsb'_toNat_eq]; omega
  simp only [decodeOp, hkind]

theorem decodeOp_of_write (hlo : 0x4000 ≤ w.toNat) (hhi : w.toNat < 0x8000) : decodeOp ⟨w, o⟩ = decodeBus true w o := by
  have hkind : (w.extractLsb' 14 2).toNat = 1 := by rw [extractLsb'_toNat_eq]; omega
  simp only [decodeOp, hkind]

theorem decodeOp_of_event (hlo : 0x8000 ≤ w.toNat) (hhi : w.toNat < 0xC000) :
    decodeOp ⟨w, o⟩ = decodeEvt (w.toNat - 0x8000) o := by
  have hkind : (w.extractLsb' 14 2).toNat = 2 := by rw [extractLsb'_toNat_eq]; omega
  have hsub : (w.extractLsb' 0 14).toNat = w.toNat - 0x8000 := by rw [extractLsb'_toNat_eq]; omega
  simp only [decodeOp, hkind, hsub]

theorem decodeOp_of_host (h : 0xC000 ≤ w.toNat) :
    decodeOp ⟨w, o⟩ = decodeHost (w.toNat / 0x100 - 0xC0) (w.toNat % 0x100) o := by
  have hw := w.isLt
  have hkind : (w.extractLsb' 14 2).toNat = 3 := by rw [extractLsb'_toNat_eq]; omega
  have hhop : (w.extractLsb' 8 6).toNat = w.toNat / 0x100 - 0xC0 := by rw [extractLsb'_toNat_eq]; omega
  have harg : (w.extractLsb' 0 8).toNat = w.toNat % 0x100 := by rw [extractLsb'_toNat_eq]; omega
  simp only [decodeOp, hkind, hhop, harg]

end

/-- A `HOST` word written as the number `0xC000 + HOP * 256 + ARG` (R96). -/
theorem decodeOp_ofNat_host (hop : BitVec 6) {base arg : Nat} (hbase : base = 0xC000 + hop.toNat * 256) (harg : arg < 256)
    (o : Operand) : decodeOp ⟨BitVec.ofNat 16 (base + arg), o⟩ = decodeHost hop.toNat arg o := by
  rw [hbase, ← hostWord_toNat hop arg harg, BitVec.ofNat_toNat, BitVec.setWidth_eq, decodeOp_host hop arg harg]

/-! ### Device bytes (R97) -/

section
variable {i : Slot} {b : Byte}

theorem decodeTwist_idle_miss (hb : b ≠ 0x01#8) : decodeTwist i .idle b = .twIdleMiss i b := if_neg hb

theorem decodeTwist_ready_miss (hb : b ≠ 0x42#8) : decodeTwist i .ready b = .twReadyMiss i b := if_neg hb

theorem decodeGun_idle_miss (hb : b ≠ 0x01#8) : decodeGun i .idle b = .gunIdleMiss i b := if_neg hb

theorem decodeGun_ready_miss (hb : b ≠ 0x42#8) : decodeGun i .ready b = .gunReadyMiss i b := if_neg hb

end

/-! ### The round trips -/

theorem decodeOp_host_slot (hop : BitVec 6) (k : Slot) (o : Operand) (f : Slot → Instr)
    (h : decodeHost hop.toNat k.val o = withSlot k.val (some f)) : decodeOp ⟨hostWord hop k.val, o⟩ = .ok (f k) := by
  rw [decodeOp_host hop k.val (Nat.lt_trans k.isLt (by decide)), h, withSlot_val]

/-- Settles O1, a format at a time: `decodeOp_busRead` and `decodeOp_busWrite` for `BUS`, `decodeOp_host` for `HOST`; an `EVT`
word is a constant, and a device byte is read in the context that names its row. -/
theorem decodeEncodeOperation : Obligations.DecodeEncodeOperation := by
  unfold Obligations.DecodeEncodeOperation
  intro i hwell hpseudo
  cases i with
  | rdData8 => exact decodeOp_busRead .w8 0x0
  | rdData16 => exact decodeOp_busRead .w16 0x0
  | rdData32 => exact decodeOp_busRead .w32 0x0
  | rdStat8 => exact decodeOp_busRead .w8 0x4
  | rdStat16 => exact decodeOp_busRead .w16 0x4
  | rdStat32 => exact decodeOp_busRead .w32 0x4
  | rdMode8 => exact decodeOp_busRead .w8 0x8
  | rdMode16 => exact decodeOp_busRead .w16 0x8
  | rdModectrl => exact decodeOp_busRead .w32 0x8
  | rdCtrl8 => exact decodeOp_busRead .w8 0xA
  | rdCtrl16 => exact decodeOp_busRead .w16 0xA
  | rdBaud8 => exact decodeOp_busRead .w8 0xE
  | rdBaud16 => exact decodeOp_busRead .w16 0xE
  | wrData8 v => exact decodeOp_busWrite .w8 0x0 v
  | wrData16 v => exact decodeOp_busWrite .w16 0x0 v
  | wrData32 v => exact decodeOp_busWrite .w32 0x0 v
  | wrStat8 v => exact decodeOp_busWrite .w8 0x4 v
  | wrStat16 v => exact decodeOp_busWrite .w16 0x4 v
  | wrStat32 v => exact decodeOp_busWrite .w32 0x4 v
  | wrMode8 v => exact decodeOp_busWrite .w8 0x8 v
  | wrMode16 v => exact decodeOp_busWrite .w16 0x8 v
  | wrModectrl v => exact decodeOp_busWrite .w32 0x8 v
  | wrCtrl8 v => exact decodeOp_busWrite .w8 0xA v
  | wrCtrl16 v => exact decodeOp_busWrite .w16 0xA v
  | wrBaud8 v => exact decodeOp_busWrite .w8 0xE v
  | wrBaud16 v => exact decodeOp_busWrite .w16 0xE v
  | rdUndef w off => exact (decodeOp_busRead w off).trans (congrArg _ (rawRead_undefined w off (eq_of_beq hwell)))
  | wrUndef w off v => exact (decodeOp_busWrite w off v).trans (congrArg _ (rawWrite_undefined w off v (eq_of_beq hwell)))
  | evtFire | evtXfer | evtAck => rfl
  | advance n => exact decodeOp_host 0x00#6 0 (by decide) (.ticks n)
  | attachCtrl k c => exact decodeOp_host_slot 0x01#6 k (.ctrlInit c) (fun k => .attachCtrl k c) rfl
  | detachCtrl k => exact decodeOp_host_slot 0x02#6 k .none .detachCtrl rfl
  | attachCard k c => exact decodeOp_host_slot 0x03#6 k (.card c) (fun k => .attachCard k c) rfl
  | detachCard k => exact decodeOp_host_slot 0x04#6 k .none .detachCard rfl
  | takeCard k => exact decodeOp_host_slot 0x05#6 k .none .takeCard rfl
  | setTap p t =>
    exact (decodeOp_host 0x06#6 p.val (Nat.lt_trans p.isLt (by decide)) (.tap t)).trans (withPort_val p _)
  | setButton k b v => exact decodeOp_host_slot 0x07#6 k (.button b v) (fun k => .setButton k b v) rfl
  | setAxis k a x => exact decodeOp_host_slot 0x08#6 k (.axis a x) (fun k => .setAxis k a x) rfl
  | setPointer k q => exact decodeOp_host_slot 0x09#6 k (.pointer q) (fun k => .setPointer k q) rfl
  | snapshot => exact decodeOp_host 0x0A#6 0 (by decide) .none
  | restore st => exact decodeOp_host 0x0B#6 0 (by decide) (.stream st)
  | sysreset => exact decodeOp_host 0x0C#6 0 (by decide) .none
  | twIdleMiss k b => exact congrArg _ (decodeTwist_idle_miss (bne_iff_ne.mp hwell))
  | twReadyMiss k b => exact congrArg _ (decodeTwist_ready_miss (bne_iff_ne.mp hwell))
  | gunIdleMiss k b => exact congrArg _ (decodeGun_idle_miss (bne_iff_ne.mp hwell))
  | gunReadyMiss k b => exact congrArg _ (decodeGun_ready_miss (bne_iff_ne.mp hwell))
  | twIdleSel | twReadyClass | twIdmsb | twBtnlsb | twBtnmsb | twSteer | twAxi | twAxii | twAxl => rfl
  | gunIdleSel | gunReadyClass | gunIdmsb | gunBtnlsb | gunBtnmsb | gunXlsb | gunXmsb | gunYlsb | gunYmsb => rfl
  | padTransfer | cardTransfer | tapTransfer => rfl
  | select | selectq | ackclr | deselect | sreset | send | wait => cases hpseudo

/-- Settles O2, a format at a time. -/
theorem encodeDecodeOperationWord : Obligations.EncodeDecodeOperationWord := by
  unfold Obligations.EncodeDecodeOperationWord
  intro ⟨w, o⟩ i hdecode
  unfold decodeOp at hdecode
  split at hdecode
  case h_1 hkind => exact encode_of_decodeBus hdecode hkind
  case h_2 hkind => exact encode_of_decodeBus hdecode hkind
  case h_3 hkind => exact encode_of_decodeEvt hdecode hkind
  case h_4 h0 h1 h2 =>
    have hkind : (w.extractLsb' 14 2).toNat = 3 := by
      have hlt := (w.extractLsb' 14 2).isLt
      have hne : (w.extractLsb' 14 2).toNat ≠ 0 ∧ (w.extractLsb' 14 2).toNat ≠ 1 ∧ (w.extractLsb' 14 2).toNat ≠ 2 :=
        ⟨h0, h1, h2⟩
      omega
    rw [encode_of_decodeHost hdecode, encodeHost, BitVec.ofNat_toNat, BitVec.setWidth_eq, ← eq_hostWord hkind]

/-! ### Illegal words, sample words, spellings -/

/-- A step whose next operation the decoder refuses repeats the decoder's name for it (R94, log 20). -/
theorem step_of_illegal {s : Machine.State} {op : Op} {rest : List Op} {e : DecodeError} (hpending : s.pending = op :: rest)
    (hfirst : Machine.schedulerFirst s = false) (hdecode : decodeOp op = .error e) :
    Machine.step s = .refused (.illegalWord e) := by
  simp only [Machine.step, hfirst, hpending, hdecode, Bool.false_eq_true, if_false]

/-- Settles O3. A word's format is a range of its value, and each format's decoder says what it refuses. -/
theorem illegalWordsRefused : Obligations.IllegalWordsRefused := by
  unfold Obligations.IllegalWordsRefused
  refine ⟨fun w o hbus hillegal => ?bus, fun w o hlo hhi => ?event, fun w o hlo => ?hop, fun w o hlo hhi hnotTap harg => ?slot,
    fun w o hhop harg => ?port, fun w o hhop harg => ?zeroArg, fun w v hbus hwidth hz => ?legalBus, ?constants,
    fun n st => ?operands, fun p q => ?tap, fun i => ?slots, fun i c m b a v x q => ?slotOperands, ?step⟩
  case bus =>
    by_cases hread : w.toNat < 0x4000
    · rw [decodeOp_of_read o hread]
      exact decodeBus_illegal false o hillegal
    · rw [decodeOp_of_write o (Nat.le_of_not_lt hread) hbus]
      exact decodeBus_illegal true o hillegal
  case event =>
    rw [decodeOp_of_event o (by omega) hhi]
    exact decodeEvt_illegal (by omega) o
  case hop =>
    rw [decodeOp_of_host o (by omega)]
    exact decodeHost_illegalHop (by omega) _ o
  case slot =>
    rw [extractLsb'_toNat_eq] at hnotTap harg
    rw [decodeOp_of_host o (by omega)]
    refine decodeHost_illegalSlot ?_ (by omega) o
    simp only [List.mem_cons, List.not_mem_nil, or_false]
    omega
  case port =>
    rw [extractLsb'_toNat_eq] at hhop harg
    rw [decodeOp_of_host o (by omega), show w.toNat / 0x100 - 0xC0 = 0x06 by omega]
    exact decodeHost_illegalPort (by omega) o
  case zeroArg =>
    rw [extractLsb'_toNat_eq] at hhop harg
    simp only [List.mem_cons, List.not_mem_nil, or_false] at hhop
    rw [decodeOp_of_host o (by omega)]
    refine decodeHost_illegalZeroArg ?_ (by omega) o
    simp only [List.mem_cons, List.not_mem_nil, or_false]
    omega
  case legalBus =>
    obtain ⟨hdecodeRead, hdecodeWrite⟩ := decodeBus_legal hwidth hz v
    by_cases hread : w.toNat < 0x4000
    · rw [if_pos hread, decodeOp_of_read _ hread]
      exact hdecodeRead
    · rw [if_neg hread, decodeOp_of_write _ (Nat.le_of_not_lt hread) hbus]
      exact hdecodeWrite
  case constants =>
    simp only [List.forall_mem_cons]
    exact ⟨rfl, rfl, rfl, rfl, rfl, List.forall_mem_nil _⟩
  case operands => exact ⟨decodeOp_host 0x00#6 0 (by decide) (.ticks n), decodeOp_host 0x0B#6 0 (by decide) (.stream st)⟩
  case tap => exact (decodeOp_ofNat_host 0x06#6 rfl (Nat.lt_trans p.isLt (by decide)) _).trans (withPort_val p _)
  case slots =>
    have hi : i.val < 256 := Nat.lt_trans i.isLt (by decide)
    simp only [List.forall_mem_cons]
    exact ⟨(decodeOp_ofNat_host 0x02#6 rfl hi _).trans (withSlot_val i _),
      (decodeOp_ofNat_host 0x04#6 rfl hi _).trans (withSlot_val i _),
      (decodeOp_ofNat_host 0x05#6 rfl hi _).trans (withSlot_val i _), List.forall_mem_nil _⟩
  case slotOperands =>
    have hi : i.val < 256 := Nat.lt_trans i.isLt (by decide)
    exact ⟨(decodeOp_ofNat_host 0x01#6 rfl hi _).trans (withSlot_val i _),
      (decodeOp_ofNat_host 0x03#6 rfl hi _).trans (withSlot_val i _),
      (decodeOp_ofNat_host 0x07#6 rfl hi _).trans (withSlot_val i _),
      (decodeOp_ofNat_host 0x08#6 rfl hi _).trans (withSlot_val i _),
      (decodeOp_ofNat_host 0x09#6 rfl hi _).trans (withSlot_val i _)⟩
  case step => exact fun s op rest e => step_of_illegal

/-- Settles O5. -/
theorem sampleWordsDecode : Obligations.SampleWordsDecode := by
  unfold Obligations.SampleWordsDecode
  exact ⟨decodeOp_busRead .w32 0x4, decodeOp_busWrite .w16 0xA _, decodeOp_busRead .w16 0x9, rfl, rfl,
    rfl, rfl, decodeGun_ready_miss (i := 1) (b := 0x43#8) (by decide)⟩

/-- A named line spells the raw access at the register's offset, where the register has a row at that width (R99). -/
theorem assemble_named {r : AsmReg} {w : Option Width} (hnamed : asmNamed r (asmWidth r w) = true) (v : Word) :
    assemble (.read r w) = some [rawRead (asmWidth r w) (asmOffset r)] ∧
      assemble (.write r w v) = some [rawWrite (asmWidth r w) (asmOffset r) v] :=
  ⟨if_pos hnamed, if_pos hnamed⟩

theorem assemble_unnamed {r : AsmReg} {w : Width} (hunnamed : asmNamed r w = false) (v : Word) :
    assemble (.read r (some w)) = none ∧ assemble (.write r (some w) v) = none :=
  ⟨if_neg (Bool.eq_false_iff.mp hunnamed), if_neg (Bool.eq_false_iff.mp hunnamed)⟩

/-- Settles O60. -/
theorem assemblerSpellings : Obligations.AssemblerSpellings := by
  unfold Obligations.AssemblerSpellings
  refine ⟨fun w off v => ⟨⟨_, rfl, encode_rawRead w off⟩, _, rfl, encode_rawWrite w off v⟩, fun v => ?named, fun v => ?unnamed⟩
  case named =>
    simp only [List.forall_mem_cons]
    exact ⟨assemble_named (by decide) v, assemble_named (by decide) v, assemble_named (by decide) v,
      assemble_named (by decide) v, assemble_named (by decide) v, assemble_named (by decide) v,
      assemble_named (by decide) v, assemble_named (by decide) v, assemble_named (by decide) v,
      assemble_named (by decide) v, assemble_named (by decide) v, assemble_named (by decide) v,
      assemble_named (by decide) v, assemble_named (by decide) v, assemble_named (by decide) v,
      assemble_named (by decide) v, assemble_named (by decide) v, assemble_named (by decide) v,
      assemble_named (by decide) v, List.forall_mem_nil _⟩
  case unnamed =>
    simp only [List.forall_mem_cons]
    exact ⟨assemble_unnamed (by decide) v, assemble_unnamed (by decide) v, assemble_unnamed (by decide) v,
      assemble_unnamed (by decide) v, assemble_unnamed (by decide) v, List.forall_mem_nil _⟩

end Sys2Proof
end

section
/-! A step (R11, R306, log 5): which operation comes next, how a table word comes to be it, and what the pseudo-instructions
expand to (R100). -/

namespace Sys2Proof.Machine

/-! ### Which operation comes next -/

theorem schedulerFirst_of_not_due {s : State} (hdue : eventDue s = false) : schedulerFirst s = false := by
  rw [schedulerFirst, hdue, Bool.false_and]

theorem eventDue_of_ahead {s : State} (hahead : EventAhead s) : eventDue s = false := by
  refine Bool.eq_false_iff.mpr fun hdue => ?_
  obtain ⟨hactive, hlate⟩ := Bool.and_eq_true_iff.mp hdue
  have hahead := hahead hactive
  have hlate := of_decide_eq_true hlate
  omega

/-- With `MAX_LATENESS` 0 an event is due as soon as its deadline is reached (R85, log 9). -/
theorem eventDue_of_punctual {s : State} (hlateness : s.params.maxLateness = 0) (hactive : s.ev.active = true)
    (hdue : s.ev.deadline ≤ s.now) : eventDue s = true := by
  have hzero : lateness s = 0 := if_pos hlateness
  rw [eventDue, hactive, hzero, Nat.add_zero, decide_eq_true hdue, Bool.and_self]

theorem step_of_scheduler {s : State} (hfirst : schedulerFirst s = true) : step s = exec .evtFire s := if_pos hfirst

theorem step_of_decoded {s : State} {op : Op} {rest : List Op} {i : Instr} (hfirst : schedulerFirst s = false)
    (hpending : s.pending = op :: rest) (hdecode : decodeOp op = .ok i) : step s = exec i (s.setPending rest) := by
  simp only [step, hfirst, hpending, hdecode, Bool.false_eq_true, if_false]

theorem step_of_nothing {s : State} (hfirst : schedulerFirst s = false) (hpending : s.pending = []) : step s = .next s := by
  simp only [step, hfirst, hpending, Bool.false_eq_true, if_false]

/-- Settles O7. -/
theorem stepRunsDecodedOperation : Obligations.StepRunsDecodedOperation := by
  unfold Obligations.StepRunsDecodedOperation
  refine ⟨fun s op rest hlateness hactive hdue hpending hagent => ?fires, fun s op rest i => step_of_decoded,
    fun s => step_of_nothing, fun s hahead => schedulerFirst_of_not_due (eventDue_of_ahead hahead)⟩
  case fires =>
    have hfirst : schedulerFirst s = true := by
      rw [schedulerFirst, eventDue_of_punctual hlateness hactive hdue, hpending, List.head?_cons, Option.any_some, hagent]
      rfl
    exact ⟨step_of_scheduler hfirst, (step_of_scheduler hfirst).trans (exec_evtFire_of_due hactive hdue)⟩

/-! ### A table word presented (log 6) -/

/-- An operation presented while no event is due is the one the next step performs, on the state as it was. -/
theorem step_presentOp {s : State} {op : Op} {i : Instr} (hdue : eventDue s = false) (hdecode : decodeOp op = .ok i) :
    step (presentOp op s) = exec i s := by
  have hdue : eventDue (s.setPending (op :: s.pending)) = false := hdue
  have hpresent : presentOp op s = s.setPending (op :: s.pending) := by
    simp only [presentOp, hdue, Bool.false_eq_true, if_false]
  rw [hpresent]
  exact step_of_decoded (schedulerFirst_of_not_due hdue) rfl hdecode

theorem decodeOp_of_decodeTableWord {w : Nat} {i : Instr} (h : decodeTableWord 16 w = some i) : decodeOp (tableOp w) = .ok i := by
  rw [decodeTableWord, if_neg (by decide)] at h
  split at h
  · rwa [← Option.some.inj h]
  · cases h

/-- A table word with the value of an event word is that event word: it has no operand (log 20). -/
theorem decodeOp_tableOp_of_event {w : Nat} {v : BitVec 16} (hword : (tableOp w).word.toNat = v.toNat)
    (hkind : (v.extractLsb' 14 2).toNat = 2) : decodeOp (tableOp w) = decodeOp ⟨v, .none⟩ := by
  have hv : BitVec.ofNat 16 w = v := BitVec.eq_of_toNat_eq hword
  have hoperand : zeroOperand v (w >>> 16) = .none := by simp only [zeroOperand, hkind]
  rw [tableOp, hv, hoperand]

/-- A word that decodes to no event is presented as an operation of another agent. -/
theorem presentWord_of_not_event {w : Nat} {i : Instr} (hdecode : decodeOp (tableOp w) = .ok i)
    (hevent : i ∉ [Instr.evtFire, .evtXfer, .evtAck]) (s : State) : presentWord 16 w s = presentOp (tableOp w) s := by
  rw [presentWord, if_neg (by decide)]
  split
  case h_1 hword =>
    have hfire : decodeOp (tableOp w) = .ok .evtFire := decodeOp_tableOp_of_event (v := 0x8000#16) hword rfl
    obtain rfl := Except.ok.inj (hfire.symm.trans hdecode)
    exact absurd (by simp) hevent
  case h_2 hword =>
    have hxfer : decodeOp (tableOp w) = .ok .evtXfer := decodeOp_tableOp_of_event (v := 0x8001#16) hword rfl
    obtain rfl := Except.ok.inj (hxfer.symm.trans hdecode)
    exact absurd (by simp) hevent
  case h_3 hword =>
    have hack : decodeOp (tableOp w) = .ok .evtAck := decodeOp_tableOp_of_event (v := 0x8002#16) hword rfl
    obtain rfl := Except.ok.inj (hack.symm.trans hdecode)
    exact absurd (by simp) hevent
  case h_4 => rfl

/-- Settles O8. -/
theorem tableWordIsFetched : Obligations.TableWordIsFetched := by
  unfold Obligations.TableWordIsFetched
  intro s w i hdue htable hevent
  have hdecode := decodeOp_of_decodeTableWord htable
  rw [State.withFetchWord, presentWord_of_not_event hdecode hevent]
  exact step_presentOp hdue hdecode

/-! ### The pseudo-instructions (R100) -/

/-- A pseudo-instruction has the words and the meaning of its expansion. -/
def Expands (i j : Instr) : Prop := encode i = encode j ∧ ∀ s, exec i s = exec j s

theorem expands_select (p : Port) : Expands (.select p) (.wrCtrl16 (selectValue p)) := ⟨rfl, fun _ => rfl⟩

theorem expands_selectq (p : Port) : Expands (.selectq p) (.wrCtrl16 (selectqValue p)) := ⟨rfl, fun _ => rfl⟩

/-- The constant is OR-ed into the low half, so that it makes no difference before or after the extension to 32 bits. -/
theorem expands_ackclr (c : BitVec 16) : Expands (.ackclr c) (.wrCtrl16 ((c ||| 0x0010#16).setWidth 32)) := by
  have hvalue : ackclrValue c = (c ||| 0x0010#16).setWidth 32 := by
    rw [BitVec.setWidth_or]
    rfl
  rw [← hvalue]
  exact ⟨rfl, fun _ => rfl⟩

theorem expands_send (b : Byte) : Expands (.send b) (.wrData8 (b.setWidth 32)) := ⟨rfl, fun _ => rfl⟩

theorem expands_wait (n : Nat) : Expands (.wait n) (.advance n) := ⟨rfl, fun _ => rfl⟩

/-- Settles O6. Each expansion is a register write or `ADVANCE`, and both always answer a next state. -/
theorem pseudoExpansion : Obligations.PseudoExpansion := by
  unfold Obligations.PseudoExpansion
  intro s x hx
  have hcompletes {i j : Instr} (hexpands : Expands i j) (hnext : ∃ t, exec j s = .next t) :
      encode i = encode j ∧ ∃ t, exec i s = .next t ∧ exec j s = .next t := by
    obtain ⟨hencode, hexec⟩ := hexpands
    obtain ⟨t, ht⟩ := hnext
    exact ⟨hencode, t, (hexec s).trans ht, ht⟩
  obtain hconst | ⟨c, rfl⟩ | ⟨b, rfl⟩ | ⟨n, rfl⟩ := hx
  case inl =>
    revert x
    simp only [List.forall_mem_cons]
    exact ⟨hcompletes (expands_select 0) ⟨_, rfl⟩, hcompletes (expands_select 1) ⟨_, rfl⟩,
      hcompletes (expands_selectq 0) ⟨_, rfl⟩, hcompletes (expands_selectq 1) ⟨_, rfl⟩,
      hcompletes ⟨rfl, fun _ => rfl⟩ ⟨_, rfl⟩, hcompletes ⟨rfl, fun _ => rfl⟩ ⟨_, rfl⟩, List.forall_mem_nil _⟩
  case inr.inl => exact hcompletes (expands_ackclr c) ⟨_, rfl⟩
  case inr.inr.inl => exact hcompletes (expands_send b) ⟨_, rfl⟩
  case inr.inr.inr => exact hcompletes (expands_wait n) ⟨_, rfl⟩

/-! ### The state after reset -/

/-- Settles O49. -/
theorem powerOnState : Obligations.PowerOnState := by
  unfold Obligations.PowerOnState
  exact ⟨rfl, rfl, rfl, rfl, rfl, rfl, rfl, rfl, rfl, rfl, rfl, rfl, rfl⟩

/-- Settles O56: STAT is the recompute of 0, no event is active, no slot is filled and nothing is presented. -/
theorem resetSatisfiesInvariants : Obligations.ResetSatisfiesInvariants := by
  unfold Obligations.ResetSatisfiesInvariants
  have hstat : State.reset.stat = recompute 0#32 false false .idle := by decide
  have hpending (op : Op) : op ∉ State.reset.pending := List.not_mem_nil
  refine ⟨⟨rfl, rfl, rfl, rfl⟩, eventTied_of_inactive rfl rfl, statusFresh_of_stat hstat, ?reserved, eventAhead_of_inactive rfl,
    ?unassigned, fun op h => absurd h (hpending op), fun op h => absurd h (hpending op), fun op h => absurd h (hpending op)⟩
  case reserved =>
    exact reservedClear_of_recompute (s := State.reset.setStat 0#32) hstat fun _ _ _ _ _ _ => BitVec.getLsbD_zero
  case unassigned =>
    intro i c hc
    have hempty : State.reset.ctrlSlot[i] = none := Vector.getElem_replicate i.isLt
    rw [hempty] at hc
    cases hc

end Sys2Proof.Machine
end

section
/-! The DATA and STAT accesses and the CTRL writes of 40_register_access.md. -/

namespace Sys2Proof.Machine

/-! ### DATA and STAT reads (R111, R113, R152) -/

/-- The byte a DATA read finds in the receive latch (R111). -/
def receivedByte (s : State) : Byte :=
  if s.params.rxEmptyRead = .allOnes ∧ s.receiveFull = false then 0xFF#8 else s.receiveBuffer

theorem readData_eq (w : Width) (s : State) :
    readData w s = answer w (replicateByte w (receivedByte (invokeEarly s)))
      (updateStatus ((invokeEarly s).setReceiveFull false)) := rfl

theorem readStat_eq (w : Width) (s : State) :
    readStat w s = answer w (invokeEarly s).stat
      ((invokeEarly s).setStat (withAckin (invokeEarly s).stat false)) := rfl

/-- A DATA read that forces no tick hands over the byte in every lane and empties the latch. -/
theorem dataRead_answers {s : State} (hforced : NotForced s) {i : Instr} {w : Width} (hexec : exec i s = .next (readData w s)) :
    ∃ v st, ReadsBits v w.bits (fun k => (receivedByte s).getLsbD (k % 8)) ∧
      Recomputed s.stat st s.transmitFull false s.busState ∧
      exec i s = .next { s with receiveFull := false, stat := st, outputs := s.outputs ++ [.read w v] } := by
  refine ⟨lowBits w (replicateByte w (receivedByte s)), recompute s.stat s.transmitFull false s.busState,
    readsBits_lowBits fun k hk => ?_, recomputed_recompute _ _ _ _, ?_⟩
  · rw [getLsbD_replicateByte, decide_eq_true hk, Bool.true_and]
  · rw [hexec, readData_eq, invokeEarly_of_notForced hforced]
    rfl

/-- A STAT read that forces no tick hands STAT over as it stood and then clears `ACKIN`. -/
theorem statRead_answers {s : State} (hforced : NotForced s) {i : Instr} {w : Width} (hexec : exec i s = .next (readStat w s)) :
    ∃ v st, ReadsBits v w.bits (fun k => s.stat.getLsbD k) ∧
      (∀ k : Nat, st.getLsbD k = if k = 7 then false else s.stat.getLsbD k) ∧
      exec i s = .next { s with stat := st, outputs := s.outputs ++ [.read w v] } := by
  refine ⟨lowBits w s.stat, withAckin s.stat false, readsBits_lowBits fun _ _ => rfl, fun k => ?_, ?_⟩
  · rw [withAckin, getLsbD_setBit]
    by_cases hk : k = 7
    · subst hk
      rfl
    · rw [if_neg hk, if_neg fun h => hk h.1.symm]
  · rw [hexec, readStat_eq, invokeEarly_of_notForced hforced]
    rfl

/-- Settles O9. -/
theorem dataReadAnswers : Obligations.DataReadAnswers := by
  unfold Obligations.DataReadAnswers
  intro s hforced
  simp only [List.forall_mem_cons]
  exact ⟨dataRead_answers hforced rfl, dataRead_answers hforced rfl, dataRead_answers hforced rfl, List.forall_mem_nil _⟩

/-- Settles O10. -/
theorem statReadAnswers : Obligations.StatReadAnswers := by
  unfold Obligations.StatReadAnswers
  intro s hforced
  simp only [List.forall_mem_cons]
  exact ⟨statRead_answers hforced rfl, statRead_answers hforced rfl, statRead_answers hforced rfl, List.forall_mem_nil _⟩

theorem invokeEarly_of_forced {s : State} (hbus : s.busState = .transmitting)
    (hpolicy : s.params.invokeEarly = .always ∨ s.ev.deadline ≤ s.now) : invokeEarly s = transferTick s :=
  if_pos ⟨hbus, hpolicy⟩

/-- Settles O11: a DATA or STAT read sees the state only through `invokeEarly`. -/
theorem earlyTickOnRead : Obligations.EarlyTickOnRead := by
  unfold Obligations.EarlyTickOnRead
  intro s hbus hpolicy
  have hearly : invokeEarly s = invokeEarly (transferTick s) := by
    rw [invokeEarly_of_forced hbus hpolicy, invokeEarly_of_notForced (notForced_transferTick s)]
  have hdata (w : Width) : readData w s = readData w (transferTick s) := by rw [readData_eq, readData_eq, hearly]
  have hstat (w : Width) : readStat w s = readStat w (transferTick s) := by rw [readStat_eq, readStat_eq, hearly]
  have hread {i : Instr} {f : State → State} (hexec : ∀ u, exec i u = .next (f u)) (hf : f s = f (transferTick s)) :
      NotForced (transferTick s) ∧ ∃ t, exec i s = .next t ∧ exec i (transferTick s) = .next t :=
    ⟨notForced_transferTick s, f s, hexec s, hf ▸ hexec (transferTick s)⟩
  simp only [List.forall_mem_cons]
  exact ⟨hread (fun _ => rfl) (hdata .w8), hread (fun _ => rfl) (hdata .w16), hread (fun _ => rfl) (hdata .w32),
    hread (fun _ => rfl) (hstat .w8), hread (fun _ => rfl) (hstat .w16), hread (fun _ => rfl) (hstat .w32),
    List.forall_mem_nil _⟩

/-! ### MODE, BAUD and DATA writes (R112, R116, R122) -/

/-- Settles O14. -/
theorem configRegisterWrites : Obligations.ConfigRegisterWrites := by
  unfold Obligations.ConfigRegisterWrites
  intro s v
  refine ⟨?_, ?_, ?_, ?_⟩
  · rw [← storeHalf_w8]; rfl
  · rw [← storeHalf_w16]; rfl
  · rw [← storeHalf_w8]; rfl
  · rw [← storeHalf_w16]; rfl

/-- A DATA write begins a transfer where it can, and else only latches (R112, R142). -/
theorem dataWrite_latches_or_starts {s : State} {v : Word} {i : Instr} (hexec : exec i s = .next (writeData v s)) :
    (s.busState = .idle ∧ StartReady { s with transmitFull := true } →
      ∃ t, Begun { s with transmitBuffer := v.setWidth 8, transmitFull := true } t ∧ exec i s = .next t) ∧
    (¬(s.busState = .idle ∧ StartReady { s with transmitFull := true }) →
      ∃ st, Recomputed s.stat st true s.receiveFull s.busState ∧
        exec i s = .next { s with transmitBuffer := v.setWidth 8, transmitFull := true, stat := st }) := by
  have hready := canTransfer_iff_startReady ((s.setTransmitBuffer (v.setWidth 8)).setTransmitFull true)
  rw [writeData_eq] at hexec
  constructor
  · rintro ⟨hidle, hstart⟩
    rw [if_pos ⟨hidle, hready.mpr hstart⟩] at hexec
    exact ⟨_, beginTransfer_begun _, hexec⟩
  · intro hstay
    rw [if_neg fun ⟨hidle, hstart⟩ => hstay ⟨hidle, hready.mp hstart⟩] at hexec
    exact ⟨_, recomputed_recompute _ _ _ _, hexec⟩

/-- Settles O15. -/
theorem dataWriteLatchesOrStarts : Obligations.DataWriteLatchesOrStarts := by
  unfold Obligations.DataWriteLatchesOrStarts
  intro s v
  simp only [List.forall_mem_cons]
  exact ⟨dataWrite_latches_or_starts rfl, dataWrite_latches_or_starts rfl, dataWrite_latches_or_starts rfl,
    List.forall_mem_nil _⟩

/-! ### CTRL writes (R118) -/

theorem exec_of_ctrlWrite_applied {i : Instr} {v : Word} {c : BitVec 16} (hwrite : CtrlWrite i v c)
    (hreset : c.getLsbD 6 = false) (s : State) : exec i s = .next (applyCtrl (s.setCtrl c)) := by
  rw [exec_of_ctrlWrite hwrite, storeCtrl_of_not_reset c s hreset]

/-- The end of a CTRL write that leaves no transfer: one in flight is ended, and the status is recomputed. -/
theorem abort_eq {b s : State} (hbus : b.busState = s.busState) (hev : b.ev = s.ev) (htf : b.transmitFull = s.transmitFull)
    (hrf : b.receiveFull = s.receiveFull) :
    (if s.busState = .idle then updateStatus b else endTransfer b) = { b with
      busState := .idle
      ev := if s.busState = .idle then s.ev else { active := false, deadline := s.ev.deadline }
      stat := recompute b.stat s.transmitFull s.receiveFull .idle } := by
  rw [← hbus, ← hev, ← htf, ← hrf]
  split
  next hidle => apply State.ext <;> simp [hidle]
  · rfl

/-- Deselection resets the devices and releases the lock (R189). -/
theorem deselectAll_eq (s : State) : deselectAll s = { withDevicesReset s with activeDevice := .none } := rfl

/-- Settles O17. -/
theorem ctrlWriteDeselects : Obligations.CtrlWriteDeselects := by
  unfold Obligations.CtrlWriteDeselects
  intro s v c i hwrite hreset hselect
  refine ⟨ctrlStored c s, recompute (ctrlStored c s).stat s.transmitFull s.receiveFull .idle, s.ev.deadline,
    ctrlStored_spec c s, recomputed_recompute _ _ _ _, ?_⟩
  have hbus := (deselectAll_busState (ctrlStored c s)).trans (ctrlStored_busState c s)
  have hev := (deselectAll_ev (ctrlStored c s)).trans (ctrlStored_ev c s)
  have htf := (deselectAll_transmitFull (ctrlStored c s)).trans (ctrlStored_transmitFull c s)
  have hrf := (deselectAll_receiveFull (ctrlStored c s)).trans (ctrlStored_receiveFull c s)
  rw [exec_of_ctrlWrite_applied hwrite hreset, applyCtrl_of_deselect c s hselect, abort_eq hbus hev htf hrf,
    deselectAll_stat, deselectAll_eq]

/-- Settles O18. -/
theorem ctrlWriteTransmitOff : Obligations.CtrlWriteTransmitOff := by
  unfold Obligations.CtrlWriteTransmitOff
  intro s v c i hwrite hreset hselect htxen
  refine ⟨ctrlStored c s, recompute (ctrlStored c s).stat s.transmitFull s.receiveFull .idle, s.ev.deadline,
    ctrlStored_spec c s, recomputed_recompute _ _ _ _, ?_⟩
  have habort := abort_eq (ctrlStored_busState c s) (ctrlStored_ev c s) (ctrlStored_transmitFull c s)
    (ctrlStored_receiveFull c s)
  rw [exec_of_ctrlWrite_applied hwrite hreset, applyCtrl_of_transmit_off c s hselect htxen, habort]

/-- Settles O19. -/
theorem ctrlWriteStarts : Obligations.CtrlWriteStarts := by
  unfold Obligations.CtrlWriteStarts
  intro s v c i hwrite hreset hselect htxen
  have hready := canTransfer_iff_startReady (ctrlStored c s)
  have hexec := exec_of_ctrlWrite_applied hwrite hreset s
  rw [applyCtrl_of_start c s hselect htxen] at hexec
  refine ⟨ctrlStored c s, ctrlStored_spec c s, ?starts, fun hstay => ?stays⟩
  case starts =>
    rintro ⟨hidle, hstart⟩
    rw [if_pos ⟨hidle, hready.mpr hstart⟩] at hexec
    exact ⟨_, beginTransfer_begun _, hexec⟩
  case stays =>
    rw [if_neg fun ⟨hidle, hstart⟩ => hstay ⟨hidle, hready.mp hstart⟩] at hexec
    refine ⟨_, ?_, hexec⟩
    rw [← ctrlStored_transmitFull c s, ← ctrlStored_receiveFull c s, ← ctrlStored_busState c s]
    exact recomputed_recompute _ _ _ _

end Sys2Proof.Machine
end

section
/-! The two ticks and the arbitration of 41_transfer_engine.md: what a firing runs, what the acknowledge tick leaves, and which
device a transfer tick offers the byte to, each in the terms of the row that the device's own operation runs. -/

namespace Sys2Proof.Machine

/-! ### What a firing runs (R141) -/

section
variable {s : State}

theorem fireEvent_of_transmitting (hbus : s.busState = .transmitting) : fireEvent s = transferTick s := by
  rw [fireEvent, hbus]

theorem fireEvent_of_waiting (hbus : s.busState = .waitingForAck) : fireEvent s = ackTick s := by
  rw [fireEvent, hbus]

theorem fireEvent_of_idle (hbus : s.busState = .idle) : fireEvent s = deact s := by
  rw [fireEvent, hbus]

theorem eventEnabled_iff : eventEnabled s = true ↔ s.ev.active = true ∧ s.ev.deadline ≤ s.now := by
  rw [eventEnabled, Bool.and_eq_true, decide_eq_true_eq]

/-- A due transfer tick is what both of its spellings run (R95, R141). -/
theorem exec_of_tickDue (hdue : TickDue s) {i : Instr} (hi : i ∈ [Instr.evtFire, .evtXfer]) :
    exec i s = .next (transferTick s) := by
  obtain ⟨hbus, hactive, hdeadline⟩ := hdue
  simp only [List.mem_cons, List.not_mem_nil, or_false] at hi
  obtain rfl | rfl := hi
  · rw [exec_evtFire_of_due hactive hdeadline, fireEvent_of_transmitting hbus]
  · exact (if_pos hbus).trans (if_pos (eventEnabled_iff.mpr ⟨hactive, hdeadline⟩))

theorem exec_of_not_enabled (hdue : ¬(s.ev.active = true ∧ s.ev.deadline ≤ s.now)) :
    exec .evtFire s = .refused .eventNotEnabled ∧
      (s.busState = .transmitting → exec .evtXfer s = .refused .eventNotEnabled) ∧
      (s.busState = .waitingForAck → exec .evtAck s = .refused .eventNotEnabled) := by
  have henabled : ¬eventEnabled s = true := fun h => hdue (eventEnabled_iff.mp h)
  exact ⟨if_neg henabled, fun hbus => (if_pos hbus).trans (if_neg henabled),
    fun hbus => (if_pos hbus).trans (if_neg henabled)⟩

end

/-- Settles O21. -/
theorem firingDispatch : Obligations.FiringDispatch := by
  unfold Obligations.FiringDispatch
  refine ⟨fun s hactive hdeadline => ⟨fun hbus => ?transfer, fun hbus => ?ack, fun hbus => ?idle⟩, fun s hbus => if_neg hbus,
    fun s hbus => if_neg hbus, fun s => exec_of_not_enabled⟩
  case transfer =>
    have hdue : TickDue s := ⟨hbus, hactive, hdeadline⟩
    exact ⟨exec_of_tickDue hdue (by simp), exec_of_tickDue hdue (by simp)⟩
  case ack =>
    have hdue : AckDue s := ⟨hbus, hactive, hdeadline⟩
    exact ⟨exec_of_ackDue hdue (by simp), exec_of_ackDue hdue (by simp)⟩
  case idle =>
    rw [exec_evtFire_of_due hactive hdeadline, fireEvent_of_idle hbus]
    exact ⟨s.ev.deadline, rfl⟩

/-! ### The acknowledge tick (R150, R151) -/

/-- STAT as the acknowledge tick sets it: `ACKIN`, and `INTR` with `ACKINTEN`. -/
def ackedStat (s : State) : Word :=
  if ackinten s.ctrl then withIntr (withAckin s.stat true) true else withAckin s.stat true

theorem getLsbD_ackedStat (s : State) (k : Nat) :
    (ackedStat s).getLsbD k =
      if k = 7 then true else if k = 9 then (s.stat.getLsbD 9 || s.ctrl.getLsbD 12) else s.stat.getLsbD k := by
  have hackin (b : Bool) : ackinten s.ctrl = b → s.ctrl.getLsbD 12 = b := id
  unfold ackedStat
  split
  next hack =>
    rw [withIntr, withAckin, getLsbD_setBit, getLsbD_setBit, hackin true hack, Bool.or_true]
    split_ifs <;> first | rfl | omega
  next hack =>
    rw [withAckin, getLsbD_setBit, hackin false (Bool.eq_false_iff.mpr hack), Bool.or_false]
    obtain rfl | h7 := eq_or_ne k 7
    · rfl
    · rw [if_neg fun h => h7 h.1.symm, if_neg h7]
      split_ifs with h9
      · rw [h9]
      · rfl

/-- The tick up to its chained start is the end of the transfer, after STAT and the interrupt. -/
theorem ackTickEnd_eq (s : State) :
    ackTickEnd s = endTransfer { s with
      stat := ackedStat s
      outputs := s.outputs ++ if s.ctrl.getLsbD 12 = true then [.irq Config.irqLine] else [] } := by
  unfold ackTickEnd ackedStat
  cases hack : ackinten s.ctrl with
  | true =>
    rw [show s.ctrl.getLsbD 12 = true from hack]
    rfl
  | false =>
    rw [show s.ctrl.getLsbD 12 = false from hack, if_neg Bool.false_ne_true, if_neg Bool.false_ne_true,
      if_neg Bool.false_ne_true, List.append_nil]
    rfl

/-- Settles O22. -/
theorem ackTickEffect : Obligations.AckTickEffect := by
  unfold Obligations.AckTickEffect
  intro s hdue i hi
  have hready : canTransfer (ackTickEnd s) = true ↔ StartReady s := by
    rw [canTransfer_ackTickEnd, canTransfer_iff_startReady]
  have hexec := exec_of_ackDue hdue hi
  rw [ackTick_eq] at hexec
  refine ⟨ackedStat s, ackTickEnd s, getLsbD_ackedStat s, ackTickEnd_eq s ▸ endTransfer_ended _, fun hstart => ?_,
    fun hstay => ?_⟩
  · rw [if_pos (hready.mpr hstart)] at hexec
    exact ⟨_, beginTransfer_begun _, hexec⟩
  · rwa [if_neg fun h => hstay (hready.mp h)] at hexec

/-! ### The transfer tick never acknowledges (R155) -/

/-- A transfer tick that ends the transfer releases the lock (R147). -/
theorem transferTick_activeDevice_of_idle {s : State} (hidle : (transferTick s).busState = .idle) :
    (transferTick s).activeDevice = .none := by
  obtain ⟨_, _, _, _, r, h⟩ := transferTick_spec s
  rw [h] at hidle ⊢
  cases hack : r.ack with
  | false => rw [latch_nack _ _ _ hack, endTransfer_activeDevice, State.setActiveDevice_activeDevice]
  | true =>
    rw [latch_ack _ _ _ hack, ackWait_busState] at hidle
    cases hidle

/-- A transfer tick writes the derived STAT bits alone. -/
theorem transferTick_stat_bit (s : State) {k : Nat} (hk : 2 < k) : (transferTick s).stat.getLsbD k = s.stat.getLsbD k := by
  rw [transferTick_stat, getLsbD_recompute, if_neg (by omega), if_neg (by omega), if_neg (by omega)]

/-- Settles O28. -/
theorem transferTickNeverAcknowledges : Obligations.TransferTickNeverAcknowledges := by
  unfold Obligations.TransferTickNeverAcknowledges
  intro s hdue
  refine ⟨transferTick s, exec_of_tickDue hdue (by simp), transferTick_outputs s, transferTick_now s, transferTick_ctrl s,
    transferTick_mode s, transferTick_baud s, transferTick_transmitBuffer s, transferTick_transmitFull s,
    transferTick_stat_bit s (by decide), transferTick_stat_bit s (by decide), ?_⟩
  obtain ⟨hidle, hinactive⟩ | hwaits := transferTick_phase s
  · exact .inl ⟨hidle, hinactive, transferTick_activeDevice_of_idle hidle⟩
  · exact .inr hwaits

/-! ### What a transfer tick latches (R145 to R149) -/

/-- A transfer tick at the place it looks devices up in (R143). -/
theorem transferTick_of_looks {s : State} {p : Port} {k : Slot} (hlooks : Looks s p k) :
    transferTick s = latch (arbitrate p k s.inFlight s).2 p (arbitrate p k s.inFlight s).1 := by
  obtain rfl := selectedPort_of_looks hlooks
  obtain rfl := deviceIndex_of_looks hlooks
  rfl

theorem selectedPort_of_val {s : State} {p : Port} (hport : p.val = (s.ctrl.getLsbD 13).toNat) : selectedPort s = p := by
  apply Fin.ext
  rw [hport, selectedPort, portOf]
  cases s.ctrl.getLsbD 13 <;> rfl

/-- A transfer tick on a port, wherever its devices are looked up. -/
theorem transferTick_of_port {s : State} {p : Port} (hport : p.val = (s.ctrl.getLsbD 13).toNat) :
    transferTick s =
      latch (arbitrate p (deviceIndex p s) s.inFlight s).2 p (arbitrate p (deviceIndex p s) s.inFlight s).1 := by
  rw [← selectedPort_of_val hport]
  rfl

/-- Latching a non-ack forgets who was locked (R147). -/
theorem latch_setActiveDevice_of_nack {r : Reply} (hack : r.ack = false) (d : ActiveDevice) (p : Port) (s : State) :
    latch r p (s.setActiveDevice d) = latch r p s := by
  rw [latch_nack r p _ hack, latch_nack r p _ hack]
  rfl

/-- Whether or not the class that answered locks itself on an ack makes no difference to what is latched. -/
theorem latch_lock_of_ack (r : Reply) (d : ActiveDevice) (p : Port) (s : State) :
    latch r p (if r.ack then s.setActiveDevice d else s) = latch r p (s.setActiveDevice d) := by
  cases hack : r.ack with
  | true => rw [if_pos rfl]
  | false => rw [if_neg Bool.false_ne_true, latch_setActiveDevice_of_nack hack]

/-- A state whose class `d` is locked already. -/
theorem setActiveDevice_self {s : State} {d : ActiveDevice} (hlocked : s.activeDevice = d) : s.setActiveDevice d = s := by
  rw [← hlocked]
  rfl

/-- What a tick latches from the device that the exchange `e` was made with, in the terms of that device's own row: `d` is its
class and `n` the delay of that class. -/
theorem latched_of_row {s e : State} (hreturned : e.returned = s.returned) {p : Port} {d : ActiveDevice} {n : Nat}
    (hdelay : ackTicks p (e.setActiveDevice d) = n) (r : Reply) :
    Latched r n { e.setReturned (some (.reply r)) with returned := s.returned, activeDevice := d }
      (latch r p (e.setActiveDevice d)) := by
  rw [← hreturned]
  exact latch_latched r p (e.setActiveDevice d) n fun _ => hdelay

/-! ### The controller's part -/

theorem exchangeController_of_some {k : Slot} {s : State} {c : Controller} (hslot : s.ctrlSlot[k] = some c) (b : Byte) :
    exchangeController k b s = (putController k (some (controllerTransfer s.params c b).1) s,
      some (controllerTransfer s.params c b).2) := by
  simp only [exchangeController, hslot]

theorem exchangeController_of_none {k : Slot} {s : State} (hslot : s.ctrlSlot[k] = none) (b : Byte) :
    exchangeController k b s = (s, none) := by
  simp only [exchangeController, hslot]

theorem exchangeCard_of_some {k : Slot} {s : State} {m : Card} (hslot : s.cardSlot[k] = some m) (b : Byte) :
    exchangeCard k b s = (putCard k (some (Config.cardTransfer m b).1) s, some (Config.cardTransfer m b).2) := by
  simp only [exchangeCard, hslot]

theorem exchangeCard_of_none {k : Slot} {s : State} (hslot : s.cardSlot[k] = none) (b : Byte) :
    exchangeCard k b s = (s, none) := by
  simp only [exchangeCard, hslot]

theorem modelRow_of_some {e : State × Option Reply} {r : Reply} (he : e.2 = some r) :
    modelRow e = .next (e.1.setReturned (some (.reply r))) := by
  simp only [modelRow, he]

theorem twistRow_of_slot {i : Slot} {s : State} {d : Twist} (hslot : s.ctrlSlot[i] = some (.twist d)) {ts : TwistState}
    (hts : d.ts = ts) (f : Twist → Twist × Reply) :
    twistRow i ts f s = .next ((putController i (some (.twist (f d).1)) s).setReturned (some (.reply (f d).2))) := by
  have hat : twistAt i ts s = some d := by simp only [twistAt, hslot, hts, if_true]
  simp only [twistRow, hat]

theorem gunRow_of_slot {i : Slot} {s : State} {d : Gun} (hslot : s.ctrlSlot[i] = some (.gun d)) {gs : GunState}
    (hgs : d.gs = gs) (f : Gun → Gun × Reply) :
    gunRow i gs f s = .next ((putController i (some (.gun (f d).1)) s).setReturned (some (.reply (f d).2))) := by
  have hat : gunAt i gs s = some d := by simp only [gunAt, hslot, hgs, if_true]
  simp only [gunRow, hat]

section
variable {k : Slot} {s : State}

/-- The row of a byte decoded in a twist controller's context is that controller's `Transfer` of the byte (R97, R184). -/
theorem exec_decodeTwist {d : Twist} (hslot : s.ctrlSlot[k] = some (.twist d)) (b : Byte) :
    exec (decodeTwist k d.ts b) s = .next ((putController k (some (.twist (twistTransfer s.params d b).1)) s).setReturned
      (some (.reply (twistTransfer s.params d b).2))) := by
  unfold twistTransfer
  cases hts : d.ts with
  | idle =>
    by_cases hb : b = 0x01#8
    · subst hb
      exact twistRow_of_slot hslot hts _
    · rw [decodeTwist_idle_miss hb, if_neg hb]
      exact (if_neg hb).trans (twistRow_of_slot hslot hts _)
  | ready =>
    by_cases hb : b = 0x42#8
    · subst hb
      exact twistRow_of_slot hslot hts _
    · rw [decodeTwist_ready_miss hb, if_neg hb]
      exact (if_neg hb).trans (twistRow_of_slot hslot hts _)
  | idMsb | buttonsLsb | buttonsMsb | steering | axisI | axisII | axisL => exact twistRow_of_slot hslot hts _

/-- The row of a byte decoded in a light gun's context is that gun's `Transfer` of the byte (R97, R184). -/
theorem exec_decodeGun {d : Gun} (hslot : s.ctrlSlot[k] = some (.gun d)) (b : Byte) :
    exec (decodeGun k d.gs b) s = .next ((putController k (some (.gun (gunTransfer s.params d b).1)) s).setReturned
      (some (.reply (gunTransfer s.params d b).2))) := by
  unfold gunTransfer
  cases hgs : d.gs with
  | idle =>
    by_cases hb : b = 0x01#8
    · subst hb
      exact gunRow_of_slot hslot hgs _
    · rw [decodeGun_idle_miss hb, if_neg hb]
      exact (if_neg hb).trans (gunRow_of_slot hslot hgs _)
  | ready =>
    by_cases hb : b = 0x42#8
    · subst hb
      exact gunRow_of_slot hslot hgs _
    · rw [decodeGun_ready_miss hb, if_neg hb]
      exact (if_neg hb).trans (gunRow_of_slot hslot hgs _)
  | idMsb | buttonsLsb | buttonsMsb | xLsb | xMsb | yLsb | yMsb => exact gunRow_of_slot hslot hgs _

theorem exec_padTransfer {d : Pad} (hslot : s.ctrlSlot[k] = some (.pad d)) (b : Byte) :
    exec (.padTransfer k b) s = .next ((putController k (some (.pad (Config.padTransfer d b).1)) s).setReturned
      (some (.reply (Config.padTransfer d b).2))) := by
  simp only [exec, execPadTransfer, hslot, exchangeController_of_some hslot, modelRow, controllerTransfer]

/-- The byte decoded in the controller's own context runs the exchange that arbitration makes with it (R97, R180). -/
theorem exec_controllerRow {c : Controller} (hslot : s.ctrlSlot[k] = some c) (b : Byte) :
    exec (decodeDev (contextOf k c) b) s = .next ((exchangeController k b s).1.setReturned
      (some (.reply (controllerTransfer s.params c b).2))) := by
  rw [exchangeController_of_some hslot]
  cases c with
  | pad d => exact exec_padTransfer hslot b
  | twist d => exact exec_decodeTwist hslot b
  | gun d => exact exec_decodeGun hslot b

theorem exec_cardTransfer {m : Card} (hslot : s.cardSlot[k] = some m) (b : Byte) :
    exec (.cardTransfer k b) s = .next ((exchangeCard k b s).1.setReturned (some (.reply (Config.cardTransfer m b).2))) :=
  modelRow_of_some (congrArg Prod.snd (exchangeCard_of_some hslot b))

end

/-! ### Arbitration (R145, R146) -/

section
variable {s : State} {p : Port} {k : Slot} {b : Byte}

theorem arbitrate_of_free (hfree : s.activeDevice = .none) : arbitrate p k b s = arbitrateFree p k b s := by
  rw [arbitrate, hfree]

theorem arbitrate_of_controller (hlocked : s.activeDevice = .controller) :
    arbitrate p k b s = ((exchangeController k b s).1, (exchangeController k b s).2.getD (noDevice s)) := by
  rw [arbitrate, hlocked]

theorem arbitrate_of_card (hlocked : s.activeDevice = .memoryCard) :
    arbitrate p k b s = ((exchangeCard k b s).1, (exchangeCard k b s).2.getD (noDevice s)) := by
  rw [arbitrate, hlocked]

theorem arbitrate_of_tap (hlocked : s.activeDevice = .multitap) :
    arbitrate p k b s = ((exchangeTap p b s).1, (exchangeTap p b s).2.getD (noDevice s)) := by
  rw [arbitrate, hlocked]

/-- With no lock and no enabled multitap the slot's own devices are asked. -/
theorem arbitrate_of_slot (hfree : s.activeDevice = .none) (htap : tapTakesByte p s = false) :
    arbitrate p k b s = arbitrateSlot k b s := by
  rw [arbitrate_of_free hfree, arbitrateFree, htap, if_neg Bool.false_ne_true]

theorem arbitrateSlot_eq (k : Slot) (b : Byte) (s : State) :
    arbitrateSlot k b s =
      if ((exchangeController k b s).2.getD (noDevice s)).ack then
        ((exchangeController k b s).1.setActiveDevice .controller, (exchangeController k b s).2.getD (noDevice s))
      else arbitrateCard k b ((exchangeController k b s).2.getD (noDevice s)) (exchangeController k b s).1 := rfl

theorem arbitrateCard_of_none (hslot : s.cardSlot[k] = none) {r : Reply} (hack : r.ack = false) :
    arbitrateCard k b r s = (s, r) := by
  simp only [arbitrateCard, exchangeCard_of_none hslot, Option.getD_none, hack, Bool.false_eq_true, if_false]

/-- What a card that is asked answers is latched with the card locked. -/
theorem latch_arbitrateCard {m : Card} (hslot : s.cardSlot[k] = some m) (r : Reply) :
    latch (arbitrateCard k b r s).2 p (arbitrateCard k b r s).1 =
      latch (Config.cardTransfer m b).2 p ((exchangeCard k b s).1.setActiveDevice .memoryCard) := by
  have hcard : arbitrateCard k b r s = (if (Config.cardTransfer m b).2.ack then
      (exchangeCard k b s).1.setActiveDevice .memoryCard else (exchangeCard k b s).1, (Config.cardTransfer m b).2) := by
    simp only [arbitrateCard, exchangeCard_of_some hslot, Option.getD_some]
  rw [hcard]
  exact latch_lock_of_ack ..

end

/-! ### The statements -/

theorem noDevice_latched (p : Port) (s : State) :
    Latched { byte := s.params.noDeviceByte, ack := false } 0 s (latch (noDevice s) p s) :=
  latch_latched (noDevice s) p s 0 fun hack => nomatch hack

/-- Settles O23: whoever is asked is not there, so the state is as it was and the answer is the no-device byte. -/
theorem tickWithoutDevice : Obligations.TickWithoutDevice := by
  unfold Obligations.TickWithoutDevice
  intro s p k hdue hlooks hnobody i hi
  have harbitrate : arbitrate p k s.inFlight s = (s, noDevice s) := by
    obtain ⟨hfree, htap, hctrl, hcard⟩ | ⟨hlocked, hctrl⟩ | ⟨hlocked, hcard⟩ | ⟨hlocked, htap⟩ := hnobody
    · rw [arbitrate_of_slot hfree htap, arbitrateSlot_eq, exchangeController_of_none hctrl]
      exact (if_neg Bool.false_ne_true).trans (arbitrateCard_of_none hcard rfl)
    · rw [arbitrate_of_controller hlocked, exchangeController_of_none hctrl]
      rfl
    · rw [arbitrate_of_card hlocked, exchangeCard_of_none hcard]
      rfl
    · have hnone : exchangeTap p s.inFlight s = (s, none) := by simp only [exchangeTap, htap]
      rw [arbitrate_of_tap hlocked, hnone]
      rfl
  refine ⟨_, noDevice_latched p s, ?_⟩
  rw [exec_of_tickDue hdue hi, transferTick_of_looks hlooks, harbitrate]

theorem ackTicks_controller (p : Port) (s : State) : ackTicks p (s.setActiveDevice .controller) = Config.ackTicksCtrl := rfl

theorem ackTicks_memoryCard (p : Port) (s : State) : ackTicks p (s.setActiveDevice .memoryCard) = Config.ackTicksCard := rfl

theorem exchangeController_activeDevice (k : Slot) (b : Byte) (s : State) :
    (exchangeController k b s).1.activeDevice = s.activeDevice := by
  obtain ⟨c, h⟩ := exchangeController_spec k b s
  rw [h, State.setCtrlSlot_activeDevice]

theorem exchangeController_returned (k : Slot) (b : Byte) (s : State) :
    (exchangeController k b s).1.returned = s.returned := by
  obtain ⟨c, h⟩ := exchangeController_spec k b s
  rw [h, State.setCtrlSlot_returned]

theorem exchangeController_cardSlot (k : Slot) (b : Byte) (s : State) :
    (exchangeController k b s).1.cardSlot = s.cardSlot := by
  obtain ⟨c, h⟩ := exchangeController_spec k b s
  rw [h, State.setCtrlSlot_cardSlot]

theorem exchangeCard_activeDevice (k : Slot) (b : Byte) (s : State) : (exchangeCard k b s).1.activeDevice = s.activeDevice := by
  obtain ⟨c, h⟩ := exchangeCard_spec k b s
  rw [h, State.setCardSlot_activeDevice]

theorem exchangeCard_returned (k : Slot) (b : Byte) (s : State) : (exchangeCard k b s).1.returned = s.returned := by
  obtain ⟨c, h⟩ := exchangeCard_spec k b s
  rw [h, State.setCardSlot_returned]

/-- The controller's answer stands where it acknowledges, where the controller is locked and where there is no card. -/
theorem latch_arbitrate_controller {s : State} {p : Port} {k : Slot} {b : Byte} {c : Controller}
    (hslot : s.ctrlSlot[k] = some c)
    (hasked : s.activeDevice = .controller ∨ (s.activeDevice = .none ∧ tapTakesByte p s = false))
    (hstands : (controllerTransfer s.params c b).2.ack = true ∨ s.activeDevice = .controller ∨ s.cardSlot[k] = none) :
    latch (arbitrate p k b s).2 p (arbitrate p k b s).1 =
      latch (controllerTransfer s.params c b).2 p ((exchangeController k b s).1.setActiveDevice .controller) := by
  have hreply : (exchangeController k b s).2 = some (controllerTransfer s.params c b).2 := by
    rw [exchangeController_of_some hslot]
  obtain hlocked | ⟨hfree, htap⟩ := hasked
  · rw [arbitrate_of_controller hlocked, hreply, Option.getD_some,
      setActiveDevice_self ((exchangeController_activeDevice k b s).trans hlocked)]
  · rw [arbitrate_of_slot hfree htap, arbitrateSlot_eq, hreply, Option.getD_some]
    cases hack : (controllerTransfer s.params c b).2.ack with
    | true => rw [if_pos rfl]
    | false =>
      have hcard : s.cardSlot[k] = none := by
        obtain hacked | hlocked | hcard := hstands
        · exact absurd (hack ▸ hacked) Bool.false_ne_true
        · exact absurd (hfree.symm.trans hlocked) (by decide)
        · exact hcard
      rw [if_neg Bool.false_ne_true, latch_setActiveDevice_of_nack hack,
        arbitrateCard_of_none (by rw [exchangeController_cardSlot, hcard]) hack]

/-- Settles O24. -/
theorem tickRunsControllerRow : Obligations.TickRunsControllerRow := by
  unfold Obligations.TickRunsControllerRow
  intro s p k c hdue hlooks hslot hasked
  refine ⟨_, _, exec_controllerRow hslot s.inFlight, rfl, fun hstands i hi => ⟨_,
    latched_of_row (exchangeController_returned k s.inFlight s) (ackTicks_controller p _) _, ?_⟩⟩
  rw [exec_of_tickDue hdue hi, transferTick_of_looks hlooks, latch_arbitrate_controller hslot hasked hstands]

/-- A card that is asked is locked already, or is what arbitration falls to. -/
theorem latch_arbitrate_card {s : State} {p : Port} {k : Slot} {b : Byte} {m : Card} (hslot : s.cardSlot[k] = some m)
    (hasked : s.activeDevice = .memoryCard ∨
      (s.activeDevice = .none ∧ tapTakesByte p s = false ∧ s.ctrlSlot[k] = none)) :
    latch (arbitrate p k b s).2 p (arbitrate p k b s).1 =
      latch (Config.cardTransfer m b).2 p ((exchangeCard k b s).1.setActiveDevice .memoryCard) := by
  obtain hlocked | ⟨hfree, htap, hctrl⟩ := hasked
  · have hreply : (exchangeCard k b s).2 = some (Config.cardTransfer m b).2 := by rw [exchangeCard_of_some hslot]
    rw [arbitrate_of_card hlocked, hreply, Option.getD_some,
      setActiveDevice_self ((exchangeCard_activeDevice k b s).trans hlocked)]
  · have hnobody : (exchangeController k b s) = (s, none) := exchangeController_of_none hctrl b
    rw [arbitrate_of_slot hfree htap, arbitrateSlot_eq, hnobody]
    exact latch_arbitrateCard hslot _

/-- Settles O25. -/
theorem tickRunsCardRow : Obligations.TickRunsCardRow := by
  unfold Obligations.TickRunsCardRow
  intro s p k m hdue hlooks hslot hasked
  refine ⟨_, _, exec_cardTransfer hslot s.inFlight, rfl, fun i hi => ⟨_,
    latched_of_row (exchangeCard_returned k s.inFlight s) (ackTicks_memoryCard p _) _, ?_⟩⟩
  rw [exec_of_tickDue hdue hi, transferTick_of_looks hlooks, latch_arbitrate_card hslot hasked]

theorem exec_cardTransfer_setReturned {e : State} {k : Slot} {m : Card} (hslot : e.cardSlot[k] = some m) (b : Byte)
    (r : Option Returned) :
    exec (.cardTransfer k b) (e.setReturned r) =
      .next ((exchangeCard k b e).1.setReturned (some (.reply (Config.cardTransfer m b).2))) := by
  have hexec := exec_cardTransfer (s := e.setReturned r) hslot b
  rw [exchangeCard_of_some (s := e.setReturned r) hslot] at hexec
  rw [hexec, exchangeCard_of_some hslot]
  rfl

/-- Where the controller does not acknowledge, the card in the slot is asked, and its answer latched. -/
theorem latch_arbitrate_falls {s : State} {p : Port} {k : Slot} {b : Byte} {c : Controller} {m : Card}
    (hfree : s.activeDevice = .none) (htap : tapTakesByte p s = false) (hctrl : s.ctrlSlot[k] = some c)
    (hcard : s.cardSlot[k] = some m) (hnack : (controllerTransfer s.params c b).2.ack = false) :
    latch (arbitrate p k b s).2 p (arbitrate p k b s).1 = latch (Config.cardTransfer m b).2 p
      ((exchangeCard k b (exchangeController k b s).1).1.setActiveDevice .memoryCard) := by
  have hreply : (exchangeController k b s).2 = some (controllerTransfer s.params c b).2 := by
    rw [exchangeController_of_some hctrl]
  rw [arbitrate_of_slot hfree htap, arbitrateSlot_eq, hreply, Option.getD_some, hnack, if_neg Bool.false_ne_true]
  exact latch_arbitrateCard (by rw [exchangeController_cardSlot, hcard]) _

/-- Settles O26. -/
theorem tickFallsToCard : Obligations.TickFallsToCard := by
  unfold Obligations.TickFallsToCard
  intro s p k c m hdue hlooks hfree htap hctrl hcard
  have hcard' : (exchangeController k s.inFlight s).1.cardSlot[k] = some m := by rw [exchangeController_cardSlot, hcard]
  have hreturned := (exchangeCard_returned k s.inFlight (exchangeController k s.inFlight s).1).trans
    (exchangeController_returned k s.inFlight s)
  refine ⟨_, _, exec_controllerRow hctrl s.inFlight, rfl, fun hnack => ⟨_, _, exec_cardTransfer_setReturned hcard' s.inFlight _,
    rfl, fun i hi => ⟨_, latched_of_row hreturned (ackTicks_memoryCard p _) _, ?_⟩⟩⟩
  rw [exec_of_tickDue hdue hi, transferTick_of_looks hlooks, latch_arbitrate_falls hfree htap hctrl hcard hnack]

/-! ### The multitap's part (R145, R149, R188) -/

/-- A multitap's exchange leaves the multitap's new state on the port and answers its reply. -/
theorem exchangeTap_of_some {s : State} {p : Port} {tp : Tap} (hport : s.tap[p] = some tp) (b : Byte) :
    ∃ (tp' : Tap) (r : Reply), (exchangeTap p b s).1.tap[p] = some tp' ∧ (exchangeTap p b s).2 = some r := by
  simp only [exchangeTap, hport, putTap_tap, getElem_set_slot, if_true]
  exact ⟨_, _, rfl, rfl⟩

theorem exchangeTap_activeDevice (p : Port) (b : Byte) (s : State) : (exchangeTap p b s).1.activeDevice = s.activeDevice := by
  obtain ⟨c, k, t, h⟩ := exchangeTap_spec p b s
  rw [h, State.setTap_activeDevice, State.setCardSlot_activeDevice, State.setCtrlSlot_activeDevice]

theorem exchangeTap_returned (p : Port) (b : Byte) (s : State) : (exchangeTap p b s).1.returned = s.returned := by
  obtain ⟨c, k, t, h⟩ := exchangeTap_spec p b s
  rw [h, State.setTap_returned, State.setCardSlot_returned, State.setCtrlSlot_returned]

theorem ackTicks_multitap {s : State} {p : Port} {tp : Tap} (hport : s.tap[p] = some tp) :
    ackTicks p (s.setActiveDevice .multitap) =
      if Config.tapAddressedIsCard tp = true then Config.ackTicksCard else Config.ackTicksCtrl := by
  simp only [ackTicks, cardClass, State.setActiveDevice_activeDevice, State.setActiveDevice_tap, hport]

theorem latch_arbitrate_tap {s : State} {p : Port} {k : Slot} {b : Byte} {tp : Tap} {r : Reply} (hport : s.tap[p] = some tp)
    (hasked : s.activeDevice = .multitap ∨ (s.activeDevice = .none ∧ Config.tapEnabled tp = true))
    (hreply : (exchangeTap p b s).2 = some r) :
    latch (arbitrate p k b s).2 p (arbitrate p k b s).1 = latch r p ((exchangeTap p b s).1.setActiveDevice .multitap) := by
  obtain hlocked | ⟨hfree, henabled⟩ := hasked
  · rw [arbitrate_of_tap hlocked, hreply, Option.getD_some,
      setActiveDevice_self ((exchangeTap_activeDevice p b s).trans hlocked)]
  · have htakes : tapTakesByte p s = true := by simp only [tapTakesByte, hport, henabled]
    have htap : arbitrateTap p b s =
        (if r.ack then (exchangeTap p b s).1.setActiveDevice .multitap else (exchangeTap p b s).1, r) := by
      simp only [arbitrateTap, hreply, Option.getD_some]
    rw [arbitrate_of_free hfree, arbitrateFree, htakes, if_pos rfl, htap]
    exact latch_lock_of_ack ..

/-- Settles O27. -/
theorem tickRunsTapRow : Obligations.TickRunsTapRow := by
  unfold Obligations.TickRunsTapRow
  intro s p tp hdue hselected hport hasked
  obtain ⟨tp', r, htap, hreply⟩ := exchangeTap_of_some hport s.inFlight
  refine ⟨_, r, tp', modelRow_of_some hreply, rfl, htap, fun i hi => ⟨_,
    latched_of_row (exchangeTap_returned p s.inFlight s) (ackTicks_multitap htap) r, ?_⟩⟩
  rw [exec_of_tickDue hdue hi, transferTick_of_port hselected, latch_arbitrate_tap hport hasked hreply]

end Sys2Proof.Machine
end

section
/-! The devices on their own (R97, R182 to R188): the rows of a packet at their slot, refused elsewhere; whole packets; the
abstract models' rows; what the resets keep of a device. -/

namespace Sys2Proof.Machine

/-! ### Bytes on the wire (R98) -/

theorem extractLsb'_zero_eq_setWidth (v : Half) : v.extractLsb' 0 8 = v.setWidth 8 :=
  (BitVec.setWidth_eq_extractLsb' (by decide)).symm

theorem buttonsLow_eq (pressed : BitVec 16) : buttonsLow pressed = ~~~(pressed.setWidth 8) := by
  rw [buttonsLow, extractLsb'_zero_eq_setWidth]

theorem buttonsHigh_eq (pressed : BitVec 16) : buttonsHigh pressed = ~~~((pressed >>> 8).setWidth 8) := by
  rw [buttonsHigh, extractLsb'_eq_setWidth_ushiftRight]

/-- The position a light gun latches, with the sentinel written out (R253). -/
theorem gunPosition_eq (i : GunInputs) :
    gunPosition i = if i.offscreen = true then ⟨0x0001#16, 0x000A#16⟩
      else (i.ptr.bind Config.beam).getD ⟨0x0001#16, 0x000A#16⟩ := by
  unfold gunPosition
  split
  · rfl
  · cases i.ptr with
    | none => rfl
    | some q =>
      rw [Option.bind_some]
      dsimp only
      cases Config.beam q <;> rfl

/-! ### The rows at their slot (R214 to R222, R244 to R252) -/

theorem twistRow_eq_withTwist {i : Slot} {s : State} {d : Twist} (hslot : s.ctrlSlot[i] = some (.twist d)) {ts : TwistState}
    {f : Twist → Twist × Reply} {d' : Twist} {byte : Byte} {ack : Bool} (hf : f d = (d', ⟨byte, ack⟩)) (hts : d.ts = ts) :
    twistRow i ts f s = .next (withTwist i d' byte ack s) := by
  rw [twistRow_of_slot hslot hts, hf]
  rfl

theorem gunRow_eq_withGun {i : Slot} {s : State} {d : Gun} (hslot : s.ctrlSlot[i] = some (.gun d)) {gs : GunState}
    {f : Gun → Gun × Reply} {d' : Gun} {byte : Byte} {ack : Bool} (hf : f d = (d', ⟨byte, ack⟩)) (hgs : d.gs = gs) :
    gunRow i gs f s = .next (withGun i d' byte ack s) := by
  rw [gunRow_of_slot hslot hgs, hf]
  rfl

/-- Settles O32. -/
theorem twistRows : Obligations.TwistRows := by
  unfold Obligations.TwistRows
  intro s i d b hslot
  have hlow : twistBtnlsb d = ({ d with ts := .buttonsMsb }, ⟨~~~(d.inputs.pressed.setWidth 8), true⟩) := by
    rw [twistBtnlsb, buttonsLow_eq, acked]
  have hhigh : twistBtnmsb d = ({ d with ts := .steering }, ⟨~~~((d.inputs.pressed >>> 8).setWidth 8), true⟩) := by
    rw [twistBtnmsb, buttonsHigh_eq, acked]
  have hrow {ts : TwistState} {f : Twist → Twist × Reply} {d' : Twist} {byte : Byte} {ack : Bool}
      (hf : f d = (d', ⟨byte, ack⟩)) (hts : d.ts = ts) : twistRow i ts f s = .next (withTwist i d' byte ack s) :=
    twistRow_eq_withTwist hslot hf hts
  exact ⟨hrow rfl, fun hts hb => (if_neg hb).trans (hrow rfl hts), hrow rfl, fun hts hb => (if_neg hb).trans (hrow rfl hts),
    hrow rfl, hrow hlow, hrow hhigh, hrow rfl, hrow rfl, hrow rfl, hrow rfl⟩

/-- Settles O33. -/
theorem gunRows : Obligations.GunRows := by
  unfold Obligations.GunRows
  intro s i d b hslot
  have hclass : gunReadyClass d = ({ d with
      gs := .idMsb
      pos := if d.inputs.offscreen = true then ⟨0x0001#16, 0x000A#16⟩
        else (d.inputs.ptr.bind Config.beam).getD ⟨0x0001#16, 0x000A#16⟩ }, ⟨0x63#8, true⟩) := by
    rw [gunReadyClass, gunPosition_eq]
    rfl
  have hlow : gunBtnlsb d = ({ d with gs := .buttonsMsb }, ⟨~~~(d.inputs.pressed.setWidth 8), true⟩) := by
    rw [gunBtnlsb, buttonsLow_eq, acked]
  have hhigh : gunBtnmsb d = ({ d with gs := .xLsb }, ⟨~~~((d.inputs.pressed >>> 8).setWidth 8), true⟩) := by
    rw [gunBtnmsb, buttonsHigh_eq, acked]
  have hxlow : gunXlsb d = ({ d with gs := .xMsb }, ⟨d.pos.x.setWidth 8, true⟩) := by
    rw [gunXlsb, extractLsb'_zero_eq_setWidth, acked]
  have hxhigh : gunXmsb d = ({ d with gs := .yLsb }, ⟨(d.pos.x >>> 8).setWidth 8, true⟩) := by
    rw [gunXmsb, extractLsb'_eq_setWidth_ushiftRight, acked]
  have hylow : gunYlsb d = ({ d with gs := .yMsb }, ⟨d.pos.y.setWidth 8, true⟩) := by
    rw [gunYlsb, extractLsb'_zero_eq_setWidth, acked]
  have hyhigh : gunYmsb d = ({ d with gs := .idle }, ⟨(d.pos.y >>> 8).setWidth 8, false⟩) := by
    rw [gunYmsb, extractLsb'_eq_setWidth_ushiftRight, nacked]
  have hrow {gs : GunState} {f : Gun → Gun × Reply} {d' : Gun} {byte : Byte} {ack : Bool} (hf : f d = (d', ⟨byte, ack⟩))
      (hgs : d.gs = gs) : gunRow i gs f s = .next (withGun i d' byte ack s) := gunRow_eq_withGun hslot hf hgs
  exact ⟨hrow rfl, fun hgs hb => (if_neg hb).trans (hrow rfl hgs), hrow hclass, fun hgs hb => (if_neg hb).trans (hrow rfl hgs),
    hrow rfl, hrow hlow, hrow hhigh, hrow hxlow, hrow hxhigh, hrow hylow, hrow hyhigh⟩

/-! ### The rows elsewhere (log 7) -/

section
variable {i : Slot} {s : State}

theorem twistRow_refused {ts : TwistState} (helsewhere : ∀ d, s.ctrlSlot[i] = some (.twist d) → d.ts ≠ ts)
    (f : Twist → Twist × Reply) : twistRow i ts f s = .refused .exchangeNotAdmitted := by
  have hat : twistAt i ts s = none := by
    unfold twistAt
    split
    next d hd => exact if_neg (helsewhere d hd)
    · rfl
  simp only [twistRow, hat]

theorem gunRow_refused {gs : GunState} (helsewhere : ∀ d, s.ctrlSlot[i] = some (.gun d) → d.gs ≠ gs)
    (f : Gun → Gun × Reply) : gunRow i gs f s = .refused .exchangeNotAdmitted := by
  have hat : gunAt i gs s = none := by
    unfold gunAt
    split
    next d hd => exact if_neg (helsewhere d hd)
    · rfl
  simp only [gunRow, hat]

/-- A mismatch row refused at its slot is refused on the byte it excludes too. -/
theorem refused_of_ite {c : Prop} [Decidable c] {o : Host.Outcome State Fault Refusal} {r : Refusal} (h : o = .refused r) :
    (if c then .refused r else o) = .refused r := by
  rw [h, ite_self]

theorem modelRow_refused {e : State × Option Reply} (hnone : e.2 = none) : modelRow e = .refused .exchangeNotAdmitted := by
  simp only [modelRow, hnone]

theorem exec_padTransfer_refused (helsewhere : ∀ d, s.ctrlSlot[i] ≠ some (.pad d)) (b : Byte) :
    exec (.padTransfer i b) s = .refused .exchangeNotAdmitted := by
  have hexec : exec (.padTransfer i b) s = execPadTransfer i b s := rfl
  rw [hexec]
  unfold execPadTransfer
  split
  next d hd => exact absurd hd (helsewhere d)
  · rfl

end

/-- Settles O35. -/
theorem deviceRowsRefuseElsewhere : Obligations.DeviceRowsRefuseElsewhere := by
  unfold Obligations.DeviceRowsRefuseElsewhere
  intro s i p b
  refine ⟨?twist, ?gun, ?excluded, fun helsewhere => exec_padTransfer_refused helsewhere b, fun hnone => ?card, fun hnone => ?tap⟩
  case twist =>
    simp only [List.forall_mem_cons]
    exact ⟨fun h => twistRow_refused h _, fun h => refused_of_ite (twistRow_refused h _), fun h => twistRow_refused h _,
      fun h => refused_of_ite (twistRow_refused h _), fun h => twistRow_refused h _, fun h => twistRow_refused h _,
      fun h => twistRow_refused h _, fun h => twistRow_refused h _, fun h => twistRow_refused h _,
      fun h => twistRow_refused h _, fun h => twistRow_refused h _, List.forall_mem_nil _⟩
  case gun =>
    simp only [List.forall_mem_cons]
    exact ⟨fun h => gunRow_refused h _, fun h => refused_of_ite (gunRow_refused h _), fun h => gunRow_refused h _,
      fun h => refused_of_ite (gunRow_refused h _), fun h => gunRow_refused h _, fun h => gunRow_refused h _,
      fun h => gunRow_refused h _, fun h => gunRow_refused h _, fun h => gunRow_refused h _,
      fun h => gunRow_refused h _, fun h => gunRow_refused h _, List.forall_mem_nil _⟩
  case excluded =>
    simp only [List.forall_mem_cons]
    exact ⟨rfl, rfl, rfl, rfl, List.forall_mem_nil _⟩
  case card => exact modelRow_refused (congrArg Prod.snd (exchangeCard_of_none hnone b))
  case tap =>
    have hexchange : exchangeTap p b s = (s, none) := by simp only [exchangeTap, hnone]
    exact modelRow_refused (congrArg Prod.snd hexchange)

/-! ### The abstract models' rows (R186 to R188) -/

/-- A multitap's row is its calls on sub-devices, then its own answer to their replies (R188). -/
theorem exec_tapTransfer {s : State} {p : Port} {t : Tap} (hport : s.tap[p] = some t) (b : Byte) :
    ∃ u rs, relayCalls p t b (Config.tapCallLimit t b) [] s = (u, rs) ∧ exec (.tapTransfer p b) s = .next { s with
      ctrlSlot := u.ctrlSlot
      cardSlot := u.cardSlot
      tap := s.tap.set p (some (Config.tapAnswer t b rs).1)
      returned := some (.reply (Config.tapAnswer t b rs).2) } := by
  obtain ⟨c, k, hslots⟩ := relayCalls_spec p t b (Config.tapCallLimit t b) [] s
  generalize hcalls : relayCalls p t b (Config.tapCallLimit t b) [] s = calls at hslots
  obtain ⟨u, rs⟩ := calls
  obtain rfl : u = (s.setCtrlSlot c).setCardSlot k := hslots
  have hexchange : exchangeTap p b s = (putTap p (some (Config.tapAnswer t b rs).1) ((s.setCtrlSlot c).setCardSlot k),
      some (Config.tapAnswer t b rs).2) := by
    simp only [exchangeTap, hport, hcalls]
  refine ⟨_, rs, rfl, (modelRow_of_some (congrArg Prod.snd hexchange)).trans ?_⟩
  rw [hexchange]
  rfl

/-- Settles O34. -/
theorem modelRowsComplete : Obligations.ModelRowsComplete := by
  unfold Obligations.ModelRowsComplete
  intro s i p b
  refine ⟨fun d hslot => exec_padTransfer hslot b, fun m hslot => ?card, fun t hport => ?tap⟩
  case card =>
    rw [exec_cardTransfer hslot, exchangeCard_of_some hslot]
    rfl
  case tap =>
    obtain ⟨u, rs, hcalls, hexec⟩ := exec_tapTransfer hport b
    refine ⟨u, rs, hcalls, fun j hj => ?_, hexec⟩
    have hother := relayCalls_other p t b (Config.tapCallLimit t b) [] s j hj
    rwa [hcalls] at hother

/-! ### Whole packets (R184) -/

/-- Settles O36. Nothing is looked at but the two command bytes, so the packet is the nine rows one after the other. -/
theorem twistPacket : Obligations.TwistPacket := by
  unfold Obligations.TwistPacket
  intro p ⟨ts, inputs⟩ b3 b4 b5 b6 b7 b8 b9 hidle
  obtain rfl : ts = .idle := hidle
  rw [← buttonsLow_eq, ← buttonsHigh_eq]
  rfl

/-- Settles O37. The class byte's row latches the position that the last four bytes are read from. -/
theorem gunPacket : Obligations.GunPacket := by
  unfold Obligations.GunPacket
  intro p ⟨gs, inputs, pos⟩ q b3 b4 b5 b6 b7 b8 b9 hidle hq
  obtain rfl : gs = .idle := hidle
  obtain rfl : q = gunPosition inputs := hq.trans (gunPosition_eq inputs).symm
  rw [← buttonsLow_eq, ← buttonsHigh_eq, ← extractLsb'_zero_eq_setWidth, ← extractLsb'_eq_setWidth_ushiftRight,
    ← extractLsb'_zero_eq_setWidth, ← extractLsb'_eq_setWidth_ushiftRight]
  rfl

/-! ### Resets (R185, R189) -/

/-- Both kinds of reset and the deselection leave the devices reset and the lock released. -/
theorem exec_of_deviceReset {s : State} {j : Instr} (hj : j ∈ [Instr.deselect, .sreset, .sysreset]) :
    ∃ t, exec j s = .next t ∧ t.activeDevice = .none ∧ t.ctrlSlot = s.ctrlSlot.map (Option.map resetController) ∧
      t.cardSlot = s.cardSlot.map (Option.map resetCard) ∧ t.tap = s.tap.map (Option.map resetTap) := by
  simp only [List.mem_cons, List.not_mem_nil, or_false] at hj
  have hreset : ∃ t, Host.Outcome.next (softReset s) = (.next t : Host.Outcome State Fault Refusal) ∧ t.activeDevice = .none ∧
      t.ctrlSlot = s.ctrlSlot.map (Option.map resetController) ∧ t.cardSlot = s.cardSlot.map (Option.map resetCard) ∧
      t.tap = s.tap.map (Option.map resetTap) :=
    ⟨_, rfl, softReset_activeDevice s, softReset_ctrlSlot s, softReset_cardSlot s, softReset_tap s⟩
  obtain rfl | rfl | rfl := hj
  case inl =>
    obtain ⟨b, st, dl, ⟨st', -, rfl⟩, -, hexec⟩ := ctrlWriteDeselects s deselectValue 0#16 (.wrCtrl16 deselectValue)
      (.inr ⟨rfl, rfl⟩) rfl rfl
    exact ⟨_, hexec, rfl, rfl, rfl, rfl⟩
  case inr.inl => exact exec_sreset s ▸ hreset
  case inr.inr => exact hreset

/-- Settles O39. -/
theorem deviceResetKeepsInputs : Obligations.DeviceResetKeepsInputs := by
  unfold Obligations.DeviceResetKeepsInputs
  intro s j hj
  obtain ⟨t, hexec, hlock, hctrl, hcard, htap⟩ := exec_of_deviceReset (s := s) hj
  refine ⟨t, hexec, hlock, fun i => ?ctrl, fun i => ?card, fun p => ?tap⟩
  case ctrl =>
    rw [hctrl, Fin.getElem_fin, Vector.getElem_map]
    exact Option.map_congr fun c _ => by cases c <;> rfl
  case card =>
    rw [hcard, Fin.getElem_fin, Vector.getElem_map]
    rfl
  case tap =>
    rw [htap, Fin.getElem_fin, Vector.getElem_map, Option.map_map]
    rfl

end Sys2Proof.Machine
end

section
/-! The host's operations on slots (R271 to R279): inputs by variant, attachment, and the rest of the slot management. -/

namespace Sys2Proof.Machine

/-! ### Inputs (R228, R229, R256, R277 to R279) -/

section
variable {s : State} {i : Slot}

theorem modifyController_of_empty (hslot : s.ctrlSlot[i] = none) (f : Controller → Controller) : modifyController i f s = s := by
  rw [modifyController, hslot, Option.map_none]
  exact set_ctrlSlot_self hslot

/-- An input that leaves the slot's controller alone leaves the whole state alone. -/
theorem modifyController_of_fixed {f : Controller → Controller} (hfixed : ∀ c, s.ctrlSlot[i] = some c → f c = c) :
    modifyController i f s = s := by
  cases hslot : s.ctrlSlot[i] with
  | none => exact modifyController_of_empty hslot f
  | some c => rw [modifyController_of_slot hslot, hfixed c hslot, set_ctrlSlot_self hslot]

end

/-- The mask after `SET.BUTTON` on a twist controller: the bit of the index, where the table has one (R228). -/
theorem twistSetButton_eq (p : Params) (inp : TwistInputs) (b : Nat) (v : Bool) :
    ∃ m, (∀ k : Nat, m.getLsbD k =
        if (p.twistButtonBits.val[b]?).map Fin.val = some k then v else inp.pressed.getLsbD k) ∧
      twistSetButton p inp b v = { inp with pressed := m } := by
  unfold twistSetButton twistButtonBit
  cases p.twistButtonBits.val[b]? with
  | none => exact ⟨inp.pressed, fun k => (if_neg fun h => nomatch h).symm, rfl⟩
  | some j =>
    refine ⟨setBit inp.pressed j.val v, fun k => ?_, rfl⟩
    simp only [getLsbD_setBit_fin, Option.map_some, Option.some.injEq]

/-- Settles O40. -/
theorem setButtonOnTwistPadOrNothing : Obligations.SetButtonOnTwistPadOrNothing := by
  unfold Obligations.SetButtonOnTwistPadOrNothing
  intro s i b v
  refine ⟨fun d hslot => ?twist, fun d hslot => ?pad, fun hslot => ?empty⟩
  case twist =>
    obtain ⟨m, hbits, hinputs⟩ := twistSetButton_eq s.params d.inputs b v
    refine ⟨m, hbits, ?_⟩
    rw [← hinputs]
    exact congrArg Host.Outcome.next (modifyController_of_slot hslot _)
  case pad => exact congrArg Host.Outcome.next (modifyController_of_slot hslot _)
  case empty => exact congrArg Host.Outcome.next (modifyController_of_empty hslot _)

/-- `SET.AXIS` on a twist controller, axis by axis (R229). -/
theorem twistSetAxis_eq (p : Params) (inp : TwistInputs) (a : Nat) (x : RealNum) :
    twistSetAxis p inp a x = { inp with
      steer := if a = 0 then steerMap x else inp.steer
      axI := if a = 1 then analogMap p.analogRounding x else inp.axI
      axII := if a = 2 then analogMap p.analogRounding x else inp.axII
      axL := if a = 3 then analogMap p.analogRounding x else inp.axL } := by
  unfold twistSetAxis
  split
  case h_5 h0 h1 h2 h3 => rw [if_neg h0, if_neg h1, if_neg h2, if_neg h3]
  all_goals rfl

/-- Settles O42. -/
theorem setAxisByVariant : Obligations.SetAxisByVariant := by
  unfold Obligations.SetAxisByVariant
  intro s i a x
  refine ⟨fun d hslot => ?twist, fun d hslot => ?pad, fun hother => ?other⟩
  case twist =>
    rw [← twistSetAxis_eq]
    exact congrArg Host.Outcome.next (modifyController_of_slot hslot _)
  case pad => exact congrArg Host.Outcome.next (modifyController_of_slot hslot _)
  case other =>
    refine congrArg Host.Outcome.next (modifyController_of_fixed fun c hc => ?_)
    obtain ⟨d, hgun⟩ | hempty := hother
    · obtain rfl := Option.some.inj (hgun.symm.trans hc)
      rfl
    · exact nomatch hempty.symm.trans hc

/-- Settles O43. -/
theorem setPointerReachesGunsOnly : Obligations.SetPointerReachesGunsOnly := by
  unfold Obligations.SetPointerReachesGunsOnly
  intro s i q
  refine ⟨fun d hslot => congrArg Host.Outcome.next (modifyController_of_slot hslot _), fun hother => ?_⟩
  refine congrArg Host.Outcome.next (modifyController_of_fixed fun c hc => ?_)
  cases c with
  | pad d => rfl
  | twist d => rfl
  | gun d => exact absurd hc (hother d)

/-! ### Attachment (R230, R257, R271 to R276) -/

theorem keepsAssigned_keepAssigned (bits : List (Fin 16)) (m : BitVec 16) : KeepsAssigned bits m (keepAssigned bits m) :=
  getLsbD_keepAssigned bits m

/-- Settles O47. -/
theorem attachedControllerIsFresh : Obligations.AttachedControllerIsFresh := by
  unfold Obligations.AttachedControllerIsFresh
  intro s i c
  refine ⟨attachController s.params c (Config.freeGunPos s.draws), s.draws + 1, rfl, ?_⟩
  cases c with
  | pad q => rfl
  | twist q => exact ⟨_, keepsAssigned_keepAssigned _ _, rfl⟩
  | gun q => exact ⟨_, _, keepsAssigned_keepAssigned _ _, rfl⟩

/-- Settles O48. -/
theorem slotOperations : Obligations.SlotOperations := by
  unfold Obligations.SlotOperations
  intro s i p c q
  exact ⟨rfl, rfl, rfl, rfl, rfl⟩

end Sys2Proof.Machine
end

section
/-! The input mappings of 43_device_twist.md section 3 over the reals (R223 to R227): every stage is monotone, and what the maps
give at the ends of their ranges is what the stages give there. -/

namespace Sys2Proof.Machine

/-! ### The byte stage (R226, R227) -/

/-- A byte holds the integer clamped to its range. -/
theorem byteOfInt_toNat (n : Int) : ((byteOfInt n).toNat : Int) = clampInt n 0 255 := by
  rw [byteOfInt, BitVec.toNat_ofInt]
  unfold clampInt
  omega

theorem byteOfInt_mono {m n : Int} (h : m ≤ n) : (byteOfInt m).toNat ≤ (byteOfInt n).toNat := by
  have hm := byteOfInt_toNat m
  have hn := byteOfInt_toNat n
  unfold clampInt at hm hn
  omega

theorem byteOfInt_of_nonpos {n : Int} (h : n ≤ 0) : byteOfInt n = 0#8 := by
  have hn := byteOfInt_toNat n
  unfold clampInt at hn
  exact BitVec.eq_of_toNat_eq (by rw [BitVec.toNat_ofNat]; omega)

theorem byteOfInt_of_ge {n : Int} (h : 255 ≤ n) : byteOfInt n = 255#8 := by
  have hn := byteOfInt_toNat n
  unfold clampInt at hn
  exact BitVec.eq_of_toNat_eq (by rw [BitVec.toNat_ofNat]; omega)

theorem byteOfInt_toNat_of_mem {n : Int} (h0 : 0 ≤ n) (h1 : n ≤ 255) : ((byteOfInt n).toNat : Int) = n := by
  rw [byteOfInt_toNat]
  unfold clampInt
  omega

/-! ### Rounding (R15) -/

section
variable {x y : ℝ}

theorem roundNum_of_nonneg (h : 0 ≤ x) : roundNum x = ⌊x + 1 / 2⌋ := if_pos h

theorem truncNum_of_nonneg (h : 0 ≤ x) : truncNum x = ⌊x⌋ := if_pos h

theorem roundNum_mono (h : x ≤ y) : roundNum x ≤ roundNum y := by
  obtain hx | hx := le_or_gt 0 x
  · rw [roundNum_of_nonneg hx, roundNum_of_nonneg (hx.trans h)]
    exact Int.floor_mono (by linarith)
  · rw [roundNum, if_neg hx.not_ge]
    have hneg : 0 ≤ ⌊-x + 1 / 2⌋ := Int.floor_nonneg.mpr (by linarith)
    obtain hy | hy := le_or_gt 0 y
    · rw [roundNum_of_nonneg hy]
      have hpos : 0 ≤ ⌊y + 1 / 2⌋ := Int.floor_nonneg.mpr (by linarith)
      omega
    · rw [roundNum, if_neg hy.not_ge]
      exact neg_le_neg (Int.floor_mono (by linarith))

theorem truncNum_mono (h : x ≤ y) : truncNum x ≤ truncNum y := by
  obtain hx | hx := le_or_gt 0 x
  · rw [truncNum_of_nonneg hx, truncNum_of_nonneg (hx.trans h)]
    exact Int.floor_mono h
  · rw [truncNum, if_neg hx.not_ge]
    have hneg : 0 ≤ ⌊-x⌋ := Int.floor_nonneg.mpr (by linarith)
    obtain hy | hy := le_or_gt 0 y
    · rw [truncNum_of_nonneg hy]
      have hpos : 0 ≤ ⌊y⌋ := Int.floor_nonneg.mpr hy
      omega
    · rw [truncNum, if_neg hy.not_ge]
      exact neg_le_neg (Int.floor_mono (by linarith))

/-- An integer rounds to itself. -/
theorem roundNum_natCast (n : ℕ) : roundNum (n : ℝ) = n := by
  rw [roundNum_of_nonneg n.cast_nonneg, Int.floor_eq_iff]
  constructor <;> push_cast <;> linarith

theorem truncNum_natCast (n : ℕ) : truncNum (n : ℝ) = n := by
  rw [truncNum_of_nonneg n.cast_nonneg, Int.floor_natCast]

end

/-! ### The stages of the steering map (R223 to R226) -/

section
variable {dz x y : ℝ}

/-- The deadzone as one formula: what of the magnitude lies beyond it, on either side, scaled to the rest of the range. -/
theorem deadzone_eq (h0 : 0 ≤ dz) (x : ℝ) : deadzone dz x = (max (x - dz) 0 + min (x + dz) 0) / (1 - dz) := by
  unfold deadzone absNum signNum
  obtain hneg | rfl | hpos := lt_trichotomy x 0
  · rw [if_pos hneg, if_pos hneg, max_eq_right (by linarith)]
    split_ifs with hin
    · rw [min_eq_right (by linarith), add_zero, zero_div]
    · rw [min_eq_left (by linarith)]
      ring
  · simp [h0]
  · rw [if_neg hpos.not_gt, if_neg hpos.not_gt, if_neg hpos.ne', min_eq_right (by linarith)]
    split_ifs with hin
    · rw [max_eq_right (by linarith), add_zero, zero_div]
    · rw [max_eq_left (by linarith)]
      ring

theorem deadzone_mono (h0 : 0 ≤ dz) (h1 : dz < 1) (h : x ≤ y) : deadzone dz x ≤ deadzone dz y := by
  have hscale : 0 ≤ 1 - dz := by linarith
  rw [deadzone_eq h0, deadzone_eq h0]
  gcongr

theorem deadzone_neg_one (h0 : 0 ≤ dz) (h1 : dz < 1) : deadzone dz (-1) = -1 := by
  rw [deadzone_eq h0, max_eq_right (by linarith), min_eq_left (by linarith), div_eq_iff (by linarith)]
  ring

theorem deadzone_one (h0 : 0 ≤ dz) (h1 : dz < 1) : deadzone dz 1 = 1 := by
  rw [deadzone_eq h0, max_eq_left (by linarith), min_eq_right (by linarith), div_eq_iff (by linarith)]
  ring

theorem deadzone_of_inside (h0 : 0 ≤ dz) (hlo : -dz ≤ x) (hhi : x ≤ dz) : deadzone dz x = 0 := by
  rw [deadzone_eq h0, max_eq_right (by linarith), min_eq_right (by linarith), add_zero, zero_div]

/-- The quadratic curve keeps the sign. -/
theorem applyCurve_quadratic (x : ℝ) : applyCurve .quadratic x = |x| * x := by
  unfold applyCurve signNum
  obtain hneg | rfl | hpos := lt_trichotomy x 0
  · rw [if_pos hneg, abs_of_neg hneg]
    ring
  · simp
  · rw [if_neg hpos.not_gt, if_neg hpos.ne', abs_of_pos hpos, one_mul]

theorem applyCurve_cubic (x : ℝ) : applyCurve .cubic x = x ^ 3 := by
  unfold applyCurve
  ring

theorem abs_mul_self_mono (h : x ≤ y) : |x| * x ≤ |y| * y := by
  obtain hx | hx := le_or_gt 0 x
  · rw [abs_of_nonneg hx, abs_of_nonneg (hx.trans h)]
    exact mul_self_le_mul_self hx h
  · rw [abs_of_neg hx]
    obtain hy | hy := le_or_gt 0 y
    · rw [abs_of_nonneg hy]
      nlinarith
    · rw [abs_of_neg hy]
      nlinarith

theorem applyCurve_mono (c : Curve) (h : x ≤ y) : applyCurve c x ≤ applyCurve c y := by
  cases c with
  | linear => exact h
  | quadratic =>
    rw [applyCurve_quadratic, applyCurve_quadratic]
    exact abs_mul_self_mono h
  | cubic =>
    rw [applyCurve_cubic, applyCurve_cubic]
    exact (Odd.strictMono_pow (by decide)).monotone h

/-- Every curve fixes the ends and the centre of the range. -/
theorem applyCurve_fixed (c : Curve) : applyCurve c (-1 : ℝ) = -1 ∧ applyCurve c (0 : ℝ) = 0 ∧ applyCurve c (1 : ℝ) = 1 := by
  cases c <;> norm_num [applyCurve, signNum]

theorem toByte_mono (h : x ≤ y) : (toByte x).toNat ≤ (toByte y).toNat :=
  byteOfInt_mono (roundNum_mono (by linarith))

theorem toByte_neg_one : toByte (-1 : ℝ) = 0#8 := by
  have hscaled : ((-1 : ℝ) + 1) * 255 / 2 = ((0 : ℕ) : ℝ) := by norm_num
  rw [toByte, hscaled, roundNum_natCast]
  rfl

theorem toByte_one : toByte (1 : ℝ) = 255#8 := by
  have hscaled : ((1 : ℝ) + 1) * 255 / 2 = ((255 : ℕ) : ℝ) := by norm_num
  rw [toByte, hscaled, roundNum_natCast]
  rfl

/-- The centre lies half-way between two bytes and rounds away from zero. -/
theorem toByte_zero : toByte (0 : ℝ) = 128#8 := by
  have hscaled : ((0 : ℝ) + 1) * 255 / 2 + 1 / 2 = ((128 : ℕ) : ℝ) := by norm_num
  rw [toByte, roundNum_of_nonneg (by norm_num), hscaled, Int.floor_natCast]
  rfl

/-- Settles O45: each stage is monotone. -/
theorem steeringMapMonotone : Obligations.SteeringMapMonotone := by
  unfold Obligations.SteeringMapMonotone
  intro dz c x y h0 h1 h
  have hclamp : clampNum x (-1) 1 ≤ clampNum y (-1) 1 := min_le_min_right 1 (max_le_max_right (-1) h)
  exact toByte_mono (applyCurve_mono c (deadzone_mono h0 h1 hclamp))

/-- Settles O44. -/
theorem steeringMapRange : Obligations.SteeringMapRange := by
  unfold Obligations.SteeringMapRange
  refine ⟨fun dz c x h0 h1 => ⟨fun hx => ?low, fun hx => ?high, fun hlo hhi => ?centre⟩,
    ⟨Config.realTable.deadzone_nonneg, Config.realTable.deadzone_lt_one⟩, steerMap_eq⟩
  all_goals obtain ⟨hneg, hzero, hone⟩ := applyCurve_fixed c
  case low =>
    have hclamp : clampNum x (-1) 1 = -1 := by rw [clampNum, max_eq_right hx, min_eq_left (by norm_num)]
    rw [steerMapWith, hclamp, deadzone_neg_one h0 h1, hneg, toByte_neg_one]
  case high =>
    have hclamp : clampNum x (-1) 1 = 1 := by rw [clampNum, max_eq_left (by linarith), min_eq_right hx]
    rw [steerMapWith, hclamp, deadzone_one h0 h1, hone, toByte_one]
  case centre =>
    have hclamp : clampNum x (-1) 1 = x := by rw [clampNum, max_eq_left (by linarith), min_eq_left (by linarith)]
    rw [steerMapWith, hclamp, deadzone_of_inside h0 hlo hhi, hzero, toByte_zero]

end

/-! ### The analog map (R227) -/

section
variable {v : ℝ}

theorem analogMapWith_of_nonpos (r : AnalogRounding) (hv : v ≤ 0) : analogMapWith r v = 0#8 := by
  have hscaled : v * 255 ≤ ((0 : ℕ) : ℝ) := by push_cast; linarith
  cases r with
  | truncate => exact byteOfInt_of_nonpos ((truncNum_mono hscaled).trans (truncNum_natCast 0).le)
  | nearest => exact byteOfInt_of_nonpos ((roundNum_mono hscaled).trans (roundNum_natCast 0).le)

theorem analogMapWith_of_one_le (r : AnalogRounding) (hv : 1 ≤ v) : analogMapWith r v = 255#8 := by
  have hscaled : ((255 : ℕ) : ℝ) ≤ v * 255 := by push_cast; linarith
  cases r with
  | truncate => exact byteOfInt_of_ge ((truncNum_natCast 255).ge.trans (truncNum_mono hscaled))
  | nearest => exact byteOfInt_of_ge ((roundNum_natCast 255).ge.trans (roundNum_mono hscaled))

theorem analogMapWith_truncate_of_mem (h0 : 0 ≤ v) (h1 : v ≤ 1) :
    ((analogMapWith .truncate v).toNat : Int) = ⌊v * 255⌋ := by
  have hpos : 0 ≤ v * 255 := by linarith
  rw [analogMapWith, truncNum_of_nonneg hpos]
  refine byteOfInt_toNat_of_mem (Int.floor_nonneg.mpr hpos) (Int.lt_add_one_iff.mp (Int.floor_lt.mpr ?_))
  push_cast
  linarith

theorem analogMapWith_nearest_of_mem (h0 : 0 ≤ v) (h1 : v ≤ 1) :
    ((analogMapWith .nearest v).toNat : Int) = ⌊v * 255 + 1 / 2⌋ := by
  rw [analogMapWith, roundNum_of_nonneg (by linarith)]
  refine byteOfInt_toNat_of_mem (Int.floor_nonneg.mpr (by linarith)) (Int.lt_add_one_iff.mp (Int.floor_lt.mpr ?_))
  push_cast
  linarith

end

/-- Settles O46. -/
theorem analogMapRange : Obligations.AnalogMapRange := by
  unfold Obligations.AnalogMapRange
  intro r v
  simp only [analogMap_eq]
  exact ⟨analogMapWith_of_nonpos r, analogMapWith_of_one_le r,
    fun h0 h1 => ⟨analogMapWith_truncate_of_mem h0 h1, analogMapWith_nearest_of_mem h0 h1⟩⟩

end Sys2Proof.Machine
end

section
/-! Snapshot and restore (R281 to R286): what a restore leaves in a slot or a port by what the version holds and what the record
is, and the round trip, in which the version holds everything. -/

namespace Sys2Proof.Machine

/-! ### Fields of a version -/

/-- The restored bits of a value whose bits are fields of their own (R286). -/
theorem restoredBits_pickBits {n : Nat} (ver : Nat) (f : Fin n → SnapField) (recorded live : BitVec n) :
    RestoredBits ver f recorded live (pickBits (fun k => Config.versionHas ver (f k)) recorded live) :=
  fun k => getLsbD_pickBits _ recorded live k

theorem pick_of_held {α : Type} {has : Bool} (h : has = true) (recorded live : α) : pick has recorded live = recorded :=
  if_pos h

theorem pick_of_lacking {α : Type} {has : Bool} (h : has = false) (recorded live : α) : pick has recorded live = live :=
  if_neg (Bool.eq_false_iff.mp h)

/-! ### One slot or port -/

section
variable (ver : Nat) (img : Image) (s : State)

theorem restored_ctrlSlot (k : Slot) :
    (restored ver img s).ctrlSlot[k] =
      s.ctrlSlot[k].map (restoreController s.params (Config.versionHas ver) k img.ctrlSlot[k]) := by
  rw [State.setReturned_ctrlSlot, restoreImage_ctrlSlot, Fin.getElem_fin, Vector.getElem_ofFn]

theorem restored_cardSlot (k : Slot) :
    (restored ver img s).cardSlot[k] = s.cardSlot[k].map (restoreCard (Config.versionHas ver) k img.cardSlot[k]) := by
  rw [State.setReturned_cardSlot, restoreImage_cardSlot, Fin.getElem_fin, Vector.getElem_ofFn]

theorem restored_tap (p : Port) :
    (restored ver img s).tap[p] = s.tap[p].map (restoreTap (Config.versionHas ver) p img.tap[p]) := by
  rw [State.setReturned_tap, restoreImage_tap, Fin.getElem_fin, Vector.getElem_ofFn]

end

section
variable {ver : Nat} {img : Image} {s : State} {k : Slot} {p : Port}

/-- A version without a record of the slot leaves it as it is (log 18). -/
theorem restored_ctrlSlot_of_lacking (h : Config.versionHas ver (.ctrlSlot k) = false) :
    (restored ver img s).ctrlSlot[k] = s.ctrlSlot[k] := by
  rw [restored_ctrlSlot]
  exact (Option.map_congr fun c _ => pick_of_lacking h _ c).trans Option.map_id'

theorem restored_cardSlot_of_lacking (h : Config.versionHas ver (.cardSlot k) = false) :
    (restored ver img s).cardSlot[k] = s.cardSlot[k] := by
  rw [restored_cardSlot]
  exact (Option.map_congr fun c _ => pick_of_lacking h _ c).trans Option.map_id'

theorem restored_tap_of_lacking (h : Config.versionHas ver (.tap p) = false) : (restored ver img s).tap[p] = s.tap[p] := by
  rw [restored_tap]
  exact (Option.map_congr fun c _ => pick_of_lacking h _ c).trans Option.map_id'

theorem restored_ctrlSlot_of_held (h : Config.versionHas ver (.ctrlSlot k) = true) {d : Controller}
    (hslot : s.ctrlSlot[k] = some d) :
    (restored ver img s).ctrlSlot[k] =
      some (restoreSameVariant s.params (Config.versionHas ver) k img.ctrlSlot[k] d) := by
  rw [restored_ctrlSlot, hslot, Option.map_some, restoreController, pick_of_held h]

theorem restored_cardSlot_of_held (h : Config.versionHas ver (.cardSlot k) = true) {m : Card}
    (hslot : s.cardSlot[k] = some m) :
    (restored ver img s).cardSlot[k] = some (restoreSameCard (Config.versionHas ver) k img.cardSlot[k] m) := by
  rw [restored_cardSlot, hslot, Option.map_some, restoreCard, pick_of_held h]

theorem restored_tap_of_held (h : Config.versionHas ver (.tap p) = true) {q : Tap} (hport : s.tap[p] = some q) :
    (restored ver img s).tap[p] = some (restoreSameTap (Config.versionHas ver) p img.tap[p] q) := by
  rw [restored_tap, hport, Option.map_some, restoreTap, pick_of_held h]

end

/-! ### One device against its record -/

/-- A controller of another variant than the recorded one, or where none is recorded, is reset (R283). -/
theorem restoreSameVariant_of_other {p : Params} {has : SnapField → Bool} {i : Slot} {recorded : Option Controller}
    {live : Controller} (hother : recorded.map variantOf ≠ some (variantOf live)) :
    restoreSameVariant p has i recorded live = resetController live := by
  unfold restoreSameVariant
  split
  case h_4 => rfl
  all_goals exact absurd rfl hother

theorem sameContents_iff {a b : List Byte} : sameContents a b = true ↔ Config.cardContentKey a = Config.cardContentKey b :=
  beq_iff_eq

/-- A card whose contents the version holds and finds different keeps them and is reset (R284). -/
theorem restoreSameCard_of_different {has : SnapField → Bool} {i : Slot} {r live : Card} (hheld : has (.cardContents i) = true)
    (hdifferent : Config.cardContentKey r.contents ≠ Config.cardContentKey live.contents) :
    restoreSameCard has i (some r) live = resetCard live := by
  have hsame : sameContents r.contents live.contents = false := Bool.eq_false_iff.mpr fun h => hdifferent (sameContents_iff.mp h)
  simp only [restoreSameCard, hheld, hsame, Bool.not_false, Bool.and_self, if_true]

theorem restoreSameCard_of_same {has : SnapField → Bool} {i : Slot} {r live : Card}
    (hsame : has (.cardContents i) = false ∨ Config.cardContentKey r.contents = Config.cardContentKey live.contents) :
    restoreSameCard has i (some r) live =
      { ts := pick (has (.cardTs i)) r.ts live.ts
        contents := pick (has (.cardContents i)) r.contents live.contents } := by
  refine if_neg fun hdifferent => ?_
  obtain ⟨hheld, hother⟩ := Bool.and_eq_true_iff.mp hdifferent
  obtain hlacking | hkey := hsame
  · exact absurd (hlacking ▸ hheld) Bool.false_ne_true
  · rw [sameContents_iff.mpr hkey] at hother
    cases hother

/-! ### The registers and the event -/

/-- What a restore leaves in the registers, the latches and the sequencing elements (R282, R286). -/
theorem restored_registers (ver : Nat) (img : Image) (s : State) :
    RestoredBits ver .ctrl img.ctrl s.ctrl (restored ver img s).ctrl ∧
      (restored ver img s).mode = restoredValue ver .mode img.mode s.mode ∧
      (restored ver img s).baud = restoredValue ver .baud img.baud s.baud ∧
      (∃ st, RestoredBits ver .stat img.stat s.stat st ∧
        Recomputed st (restored ver img s).stat (restored ver img s).transmitFull (restored ver img s).receiveFull
          (restored ver img s).busState) ∧
      (restored ver img s).transmitBuffer = restoredValue ver .transmitBuffer img.transmitBuffer s.transmitBuffer ∧
      (restored ver img s).transmitFull = restoredValue ver .transmitFull img.transmitFull s.transmitFull ∧
      (restored ver img s).receiveBuffer = restoredValue ver .receiveBuffer img.receiveBuffer s.receiveBuffer ∧
      (restored ver img s).receiveFull = restoredValue ver .receiveFull img.receiveFull s.receiveFull ∧
      (restored ver img s).inFlight = restoredValue ver .inFlight img.inFlight s.inFlight ∧
      (restored ver img s).busState = restoredValue ver .busState img.busState s.busState ∧
      (restored ver img s).activeDevice = restoredValue ver .activeDevice img.activeDevice s.activeDevice := by
  have hctrl : RestoredBits ver .ctrl img.ctrl s.ctrl (restored ver img s).ctrl := by
    rw [State.setReturned_ctrl, restoreImage_ctrl]
    exact restoredBits_pickBits ver .ctrl img.ctrl s.ctrl
  rw [State.setReturned_mode, State.setReturned_baud, State.setReturned_stat, State.setReturned_transmitBuffer,
    State.setReturned_transmitFull, State.setReturned_receiveBuffer, State.setReturned_receiveFull, State.setReturned_inFlight,
    State.setReturned_busState, State.setReturned_activeDevice, restoreImage_stat]
  exact ⟨hctrl, restoreImage_mode .., restoreImage_baud ..,
    ⟨_, restoredBits_pickBits ver .stat img.stat s.stat, recomputed_recompute _ _ _ _⟩,
    restoreImage_transmitBuffer .., restoreImage_transmitFull .., restoreImage_receiveBuffer .., restoreImage_receiveFull ..,
    restoreImage_inFlight .., restoreImage_busState .., restoreImage_activeDevice ..⟩

/-- What a restore leaves in the event's two fields (R44, R282, R286). -/
theorem restored_event (ver : Nat) (img : Image) (s : State) :
    (restored ver img s).ev.active = restoredValue ver .evActive img.evActive s.ev.active ∧
      (Config.versionHas ver .evRemaining = true → (restored ver img s).ev.active = true →
        0 ≤ (s.now : Int) + img.evRemaining → ((restored ver img s).ev.deadline : Int) = s.now + img.evRemaining) ∧
      (Config.versionHas ver .evRemaining = false → (restored ver img s).ev.deadline = s.ev.deadline) := by
  have hev : (restored ver img s).ev = restoredEvent (Config.versionHas ver) img s := by
    rw [State.setReturned_ev, restoreImage_ev]
  rw [hev]
  refine ⟨rfl, fun hheld _ hahead => ?_, fun hlacking => pick_of_lacking hlacking _ _⟩
  rw [restoredEvent, pick_of_held hheld, Int.toNat_of_nonneg hahead]

/-! ### The exceptions -/

/-- Settles O51. The broken stream apart, each clause is the restore of one field, slot or port. -/
theorem restoreExceptions : Obligations.RestoreExceptions := by
  unfold Obligations.RestoreExceptions
  intro s ver img
  refine ⟨⟨restored ver img s, rfl, ?now, ?outputs, rfl, ?mark,
    restored_registers ver img s, restored_event ver img s, fun k => ⟨?ctrlKept, ?cardKept⟩, fun p => ?tapKept,
    fun k => restored_ctrlSlot_of_lacking, fun k d hheld hslot => ?ctrl, fun k => restored_cardSlot_of_lacking,
    fun k m hheld hslot => ?card, fun p => restored_tap_of_lacking, fun p q hheld hport => ?tap⟩,
    restoreBroken s, rfl, rfl, rfl⟩
  case now => rw [State.setReturned_now, restoreImage_now]
  case outputs => rw [State.setReturned_outputs, restoreImage_outputs]
  case mark => rw [State.setReturned_restoreFailed, restoreImage_restoreFailed]
  case ctrlKept => rw [restored_ctrlSlot, Option.isSome_map]
  case cardKept => rw [restored_cardSlot, Option.isSome_map]
  case tapKept => rw [restored_tap, Option.isSome_map]
  case ctrl =>
    rw [restored_ctrlSlot_of_held hheld hslot]
    refine ⟨fun hother => congrArg some (restoreSameVariant_of_other hother), ?pad, ?twist, ?gun⟩
    case pad =>
      rintro l r rfl hrecorded
      rw [hrecorded]
      rfl
    case twist =>
      rintro l r rfl hrecorded
      rw [hrecorded]
      exact ⟨_, _, keepsAssigned_keepAssigned _ _, restoredBits_pickBits _ _ _ _, rfl⟩
    case gun =>
      rintro l r rfl hrecorded
      rw [hrecorded]
      exact ⟨_, _, keepsAssigned_keepAssigned _ _, restoredBits_pickBits _ _ _ _, rfl⟩
  case card =>
    rw [restored_cardSlot_of_held hheld hslot]
    refine ⟨fun hnone => ?none, fun r hrecorded => ⟨fun ⟨hcontents, hkey⟩ => ?different, fun hsame => ?same⟩⟩
    case none =>
      rw [hnone]
      rfl
    case different =>
      rw [hrecorded, restoreSameCard_of_different hcontents hkey]
      rfl
    case same =>
      rw [hrecorded, restoreSameCard_of_same hsame]
      rfl
  case tap =>
    rw [restored_tap_of_held hheld hport]
    refine ⟨fun hnone => ?unbound, fun r hrecorded => ?bound⟩
    case unbound =>
      rw [hnone]
      rfl
    case bound =>
      rw [hrecorded]
      rfl

/-! ### The round trip -/

/-- The version a snapshot is written with holds every field (R281, R286). -/
theorem versionHas_current (f : SnapField) : Config.versionHas Config.snapshotVersion f = true := by
  rw [Config.versionHas, beq_self_eq_true, Bool.true_or]

theorem pick_current {α : Type} (f : SnapField) (recorded live : α) :
    pick (Config.versionHas Config.snapshotVersion f) recorded live = recorded :=
  pick_of_held (versionHas_current f) recorded live

theorem pickBits_current {n : Nat} (f : Fin n → SnapField) (recorded live : BitVec n) :
    pickBits (fun k => Config.versionHas Config.snapshotVersion (f k)) recorded live = recorded :=
  pickBits_all _ recorded live fun k => versionHas_current (f k)

/-- A mask with its unassigned bits 0 loses nothing (log 27). -/
theorem keepAssigned_of_clear {bits : List (Fin 16)} {m : BitVec 16}
    (hclear : ∀ k : Nat, (∀ j ∈ bits, j.val ≠ k) → m.getLsbD k = false) : keepAssigned bits m = m := by
  apply BitVec.eq_of_getLsbD_eq
  intro k _
  rw [getLsbD_keepAssigned]
  by_cases hassigned : ∃ j ∈ bits, j.val = k
  · rw [decide_eq_true hassigned, Bool.true_and]
  · rw [decide_eq_false hassigned, Bool.false_and]
    exact (hclear k fun j hj hjk => hassigned ⟨j, hj, hjk⟩).symm

/-- A controller of the recorded variant takes the record over whole. -/
theorem restoreSameVariant_current {p : Params} {i : Slot} {c live : Controller} (hvariant : variantOf c = variantOf live)
    (hclear : UnassignedClearOf p c) :
    restoreSameVariant p (Config.versionHas Config.snapshotVersion) i (some c) live = c := by
  cases live with
  | pad l =>
    cases c with
    | pad r => simp only [restoreSameVariant, pick_current]
    | twist | gun => cases hvariant
  | twist l =>
    cases c with
    | twist r => simp only [restoreSameVariant, pick_current, pickBits_current, twistPressed, keepAssigned_of_clear hclear]
    | pad | gun => cases hvariant
  | gun l =>
    cases c with
    | gun r => simp only [restoreSameVariant, pick_current, pickBits_current, gunPressed, keepAssigned_of_clear hclear]
    | pad | twist => cases hvariant

/-- Two options that agree under a map are empty together, or hold values that agree under it. -/
theorem option_cases_of_map_eq {α β : Type} {f : α → β} {a b : Option α} (h : a.map f = b.map f) :
    (a = none ∧ b = none) ∨ ∃ x y, a = some x ∧ b = some y ∧ f x = f y := by
  cases a with
  | none => exact .inl ⟨rfl, Option.map_eq_none_iff.mp h.symm⟩
  | some x =>
    obtain ⟨y, hy, hxy⟩ := Option.map_eq_some_iff.mp h.symm
    exact .inr ⟨x, y, rfl, hy, hxy.symm⟩

theorem vector_ext_fin {α : Type} {n : Nat} {u w : Vector α n} (h : ∀ k : Fin n, u[k] = w[k]) : u = w :=
  Vector.ext fun i hi => h ⟨i, hi⟩

section
variable {s v : State}

theorem restored_ctrlSlot_current (hdevices : SameDevices s v)
    (hclear : ∀ (i : Slot) (c : Controller), s.ctrlSlot[i] = some c → UnassignedClearOf v.params c) :
    (restored Config.snapshotVersion (capture s) v).ctrlSlot = s.ctrlSlot := by
  obtain ⟨hvariants, -, -⟩ := hdevices
  refine vector_ext_fin fun k => ?_
  obtain ⟨hs, hv⟩ | ⟨c, live, hs, hv, hvariant⟩ := option_cases_of_map_eq (hvariants k)
  · rw [restored_ctrlSlot, hv, hs, Option.map_none]
  · have hrecorded : (capture s).ctrlSlot[k] = some c := hs
    rw [restored_ctrlSlot_of_held (versionHas_current _) hv, hrecorded, restoreSameVariant_current hvariant (hclear k c hs), hs]

theorem restored_cardSlot_current (hdevices : SameDevices s v) :
    (restored Config.snapshotVersion (capture s) v).cardSlot = s.cardSlot := by
  obtain ⟨-, hcontents, -⟩ := hdevices
  refine vector_ext_fin fun k => ?_
  obtain ⟨hs, hv⟩ | ⟨c, live, hs, hv, hkey⟩ := option_cases_of_map_eq (hcontents k)
  · rw [restored_cardSlot, hv, hs, Option.map_none]
  · have hrecorded : (capture s).cardSlot[k] = some c := hs
    rw [restored_cardSlot_of_held (versionHas_current _) hv, hrecorded, restoreSameCard_of_same (.inr hkey), pick_current,
      pick_current, hs]

theorem restored_tap_current (hdevices : SameDevices s v) :
    (restored Config.snapshotVersion (capture s) v).tap = s.tap := by
  obtain ⟨-, -, hbound⟩ := hdevices
  refine vector_ext_fin fun p => ?_
  cases hs : s.tap[p] with
  | none =>
    have hv : v.tap[p] = none := Option.isNone_iff_eq_none.mp (by rw [← Option.not_isSome, ← hbound p, hs]; rfl)
    rw [restored_tap, hv, Option.map_none]
  | some c =>
    obtain ⟨live, hv⟩ := Option.isSome_iff_exists.mp ((hbound p).symm.trans (Option.isSome_iff_exists.mpr ⟨c, hs⟩))
    have hrecorded : (capture s).tap[p] = some c := hs
    rw [restored_tap_of_held (versionHas_current _) hv, hrecorded, restoreSameTap, pick_current, pick_current, pick_current]

/-- The recorded STAT was fresh, so the recompute at the end of the restore changes nothing. -/
theorem restored_stat_current (hfresh : StatusFresh s) :
    (restored Config.snapshotVersion (capture s) v).stat = s.stat := by
  rw [State.setReturned_stat, restoreImage_stat, restoreImage_transmitFull, restoreImage_receiveFull, restoreImage_busState,
    pickBits_current, pick_current, pick_current, pick_current]
  exact recompute_of_statusFresh hfresh

theorem restored_ev_current : (restored Config.snapshotVersion (capture s) v).ev =
    { active := s.ev.active, deadline := ((v.now : Int) + ((s.ev.deadline : Int) - s.now)).toNat } := by
  rw [State.setReturned_ev, restoreImage_ev, restoredEvent, pick_current, pick_current]
  rfl

/-- Restoring a snapshot of the current version gives the block the state it was taken in, the time and the model's own fields
apart. -/
theorem restored_current (hfresh : StatusFresh s) (hdevices : SameDevices s v)
    (hclear : ∀ (i : Slot) (c : Controller), s.ctrlSlot[i] = some c → UnassignedClearOf v.params c) :
    restored Config.snapshotVersion (capture s) v = { v with
      ctrl := s.ctrl
      stat := s.stat
      mode := s.mode
      baud := s.baud
      transmitBuffer := s.transmitBuffer
      transmitFull := s.transmitFull
      receiveBuffer := s.receiveBuffer
      receiveFull := s.receiveFull
      inFlight := s.inFlight
      busState := s.busState
      activeDevice := s.activeDevice
      ev := { active := s.ev.active, deadline := ((v.now : Int) + ((s.ev.deadline : Int) - s.now)).toNat }
      ctrlSlot := s.ctrlSlot
      cardSlot := s.cardSlot
      tap := s.tap
      returned := some (.restored true)
      draws := v.draws + 1 } := by
  apply State.ext
  case ctrl => rw [State.setReturned_ctrl, restoreImage_ctrl, pickBits_current, capture]
  case stat => exact restored_stat_current hfresh
  case ev => exact restored_ev_current
  case ctrlSlot => exact restored_ctrlSlot_current hdevices hclear
  case cardSlot => exact restored_cardSlot_current hdevices
  case tap => exact restored_tap_current hdevices
  case draws =>
    rw [State.setReturned_draws, restoreImage_draws, versionHas_current, Bool.true_or]
    rfl
  all_goals simp [pick_current, capture]

end

/-- Settles O50. -/
theorem snapshotRestoreRoundTrip : Obligations.SnapshotRestoreRoundTrip := by
  unfold Obligations.SnapshotRestoreRoundTrip
  intro s v hfresh hdevices hclear
  refine ⟨.intact Config.snapshotVersion (capture s), rfl, ((v.now : Int) + ((s.ev.deadline : Int) - s.now)).toNat, v.draws + 1,
    fun _ hahead => ?_, congrArg Host.Outcome.next (restored_current hfresh hdevices hclear)⟩
  omega

end Sys2Proof.Machine
end
